-- ==== Sys2Proof/Word.lean ====
section
/-! DEFINITION. The two widths of the machine (R4): 8-bit registers and memory cells, 16-bit pairs, `pc`, `sp` and addresses. -/

namespace Sys2Proof

/-- A byte: the width of a general register and of a memory cell (R4, R20). -/
abbrev Byte := BitVec 8

/-- A 16-bit value: a register pair, `pc`, `sp`, an address (R4, R27, R28). -/
abbrev Word := BitVec 16

end Sys2Proof
end

