-- ==== Sys2Proof/WellFormed.lean ====
section
/-! DEFINITION. Well-formedness of an instruction term. -/

namespace Sys2Proof

/-- The eleven primary bytes with no table entry (R104). -/
def unmappedOpcodes : List Byte :=
  [0xD3#8, 0xDB#8, 0xDD#8, 0xE3#8, 0xE4#8, 0xEB#8, 0xEC#8, 0xED#8, 0xF4#8, 0xFC#8, 0xFD#8]

/-- The one check a term needs: `unmapped op` stands for an unmapped byte (R104). Every other constructor is well formed
whatever its operand bytes are, because "Every operand byte value 0..255 is legal for every instruction that takes one"
(R105); that is what the last line says. -/
def Instr.wellFormed : Instr → Bool
  | .unmapped op => unmappedOpcodes.contains op
  | _ => true

end Sys2Proof
end

