-- ==== Sys2Proof/Decode.lean ====
section
/-! DEFINITION. The decoder, written as the two opcode listings of the spec (R100 and R102) and the length table (R101), and
after it the encoder, written from the same tables: one opcode byte per constructor and the operand bytes. -/

namespace Sys2Proof

/-! ## Bytes and words -/

/-- `hi:lo`, the 16-bit value of two bytes (R5). -/
def wordOf (hi lo : Byte) : Word := hi ++ lo

/-- `w[15:8]` (R5). -/
def hiByte (w : Word) : Byte := w.extractLsb' 8 8

/-- `w[7:0]` (R5). -/
def loByte (w : Word) : Byte := w.extractLsb' 0 8

/-! ## The decoder -/

/-- The primary bytes with two operand bytes (R101: 17 of them). -/
def twoOperandOpcodes : List Byte :=
  [0x01#8, 0x11#8, 0x21#8, 0x31#8, 0x08#8, 0xC2#8, 0xCA#8, 0xD2#8, 0xDA#8, 0xC3#8, 0xC4#8, 0xCC#8, 0xD4#8, 0xDC#8, 0xCD#8,
    0xEA#8, 0xFA#8]

/-- The primary bytes with one operand byte (R101: 26 of them). -/
def oneOperandOpcodes : List Byte :=
  [0x06#8, 0x0E#8, 0x16#8, 0x1E#8, 0x26#8, 0x2E#8, 0x36#8, 0x3E#8, 0x10#8, 0x18#8, 0x20#8, 0x28#8, 0x30#8, 0x38#8, 0xC6#8,
    0xCE#8, 0xD6#8, 0xDE#8, 0xE6#8, 0xEE#8, 0xF6#8, 0xFE#8, 0xE0#8, 0xF0#8, 0xE8#8, 0xF8#8]

/-- `LEN[op]` in primary mode (R101; an unmapped byte fetches no operand, R104) and 0 in extended mode (R103). -/
def operandCount (m : DecodeMode) (op : Byte) : Nat :=
  match m with
  | .primary => if twoOperandOpcodes.contains op then 2 else if oneOperandOpcodes.contains op then 1 else 0
  | .extended => 0

/-- R100: the primary bytes 0x00 to 0x0F. -/
def primaryRow0 (lo hi : Byte) : List Instr :=
  [.nop, .ld_BC_nn (wordOf hi lo), .ld_atBC_A, .inc_BC, .inc_B, .dec_B, .ld_B_n lo, .rlca,
    .ld_atNN_SP (wordOf hi lo), .add_HL_BC, .ld_A_atBC, .dec_BC, .inc_C, .dec_C, .ld_C_n lo, .rrca]

/-- R100: the primary bytes 0x10 to 0x1F. -/
def primaryRow1 (lo hi : Byte) : List Instr :=
  [.stop lo, .ld_DE_nn (wordOf hi lo), .ld_atDE_A, .inc_DE, .inc_D, .dec_D, .ld_D_n lo, .rla, .jr_e lo, .add_HL_DE,
    .ld_A_atDE, .dec_DE, .inc_E, .dec_E, .ld_E_n lo, .rra]

/-- R100: the primary bytes 0x20 to 0x2F. -/
def primaryRow2 (lo hi : Byte) : List Instr :=
  [.jr_NZ_e lo, .ld_HL_nn (wordOf hi lo), .ld_atHLinc_A, .inc_HL, .inc_H, .dec_H, .ld_H_n lo, .daa, .jr_Z_e lo,
    .add_HL_HL, .ld_A_atHLinc, .dec_HL, .inc_L, .dec_L, .ld_L_n lo, .cpl]

/-- R100: the primary bytes 0x30 to 0x3F. -/
def primaryRow3 (lo hi : Byte) : List Instr :=
  [.jr_NC_e lo, .ld_SP_nn (wordOf hi lo), .ld_atHLdec_A, .inc_SP, .inc_atHL, .dec_atHL, .ld_atHL_n lo, .scf,
    .jr_C_e lo, .add_HL_SP, .ld_A_atHLdec, .dec_SP, .inc_A, .dec_A, .ld_A_n lo, .ccf]

/-- R100: the primary bytes 0x40 to 0x4F. -/
def primaryRow4 (_lo _hi : Byte) : List Instr :=
  [.ld_B_B, .ld_B_C, .ld_B_D, .ld_B_E, .ld_B_H, .ld_B_L, .ld_B_atHL, .ld_B_A, .ld_C_B, .ld_C_C, .ld_C_D, .ld_C_E,
    .ld_C_H, .ld_C_L, .ld_C_atHL, .ld_C_A]

/-- R100: the primary bytes 0x50 to 0x5F. -/
def primaryRow5 (_lo _hi : Byte) : List Instr :=
  [.ld_D_B, .ld_D_C, .ld_D_D, .ld_D_E, .ld_D_H, .ld_D_L, .ld_D_atHL, .ld_D_A, .ld_E_B, .ld_E_C, .ld_E_D, .ld_E_E,
    .ld_E_H, .ld_E_L, .ld_E_atHL, .ld_E_A]

/-- R100: the primary bytes 0x60 to 0x6F. -/
def primaryRow6 (_lo _hi : Byte) : List Instr :=
  [.ld_H_B, .ld_H_C, .ld_H_D, .ld_H_E, .ld_H_H, .ld_H_L, .ld_H_atHL, .ld_H_A, .ld_L_B, .ld_L_C, .ld_L_D, .ld_L_E,
    .ld_L_H, .ld_L_L, .ld_L_atHL, .ld_L_A]

/-- R100: the primary bytes 0x70 to 0x7F. -/
def primaryRow7 (_lo _hi : Byte) : List Instr :=
  [.ld_atHL_B, .ld_atHL_C, .ld_atHL_D, .ld_atHL_E, .ld_atHL_H, .ld_atHL_L, .halt, .ld_atHL_A, .ld_A_B, .ld_A_C,
    .ld_A_D, .ld_A_E, .ld_A_H, .ld_A_L, .ld_A_atHL, .ld_A_A]

/-- R100: the primary bytes 0x80 to 0x8F. -/
def primaryRow8 (_lo _hi : Byte) : List Instr :=
  [.add_A_B, .add_A_C, .add_A_D, .add_A_E, .add_A_H, .add_A_L, .add_A_atHL, .add_A_A, .adc_A_B, .adc_A_C, .adc_A_D,
    .adc_A_E, .adc_A_H, .adc_A_L, .adc_A_atHL, .adc_A_A]

/-- R100: the primary bytes 0x90 to 0x9F. -/
def primaryRow9 (_lo _hi : Byte) : List Instr :=
  [.sub_B, .sub_C, .sub_D, .sub_E, .sub_H, .sub_L, .sub_atHL, .sub_A, .sbc_A_B, .sbc_A_C, .sbc_A_D, .sbc_A_E,
    .sbc_A_H, .sbc_A_L, .sbc_A_atHL, .sbc_A_A]

/-- R100: the primary bytes 0xA0 to 0xAF. -/
def primaryRowA (_lo _hi : Byte) : List Instr :=
  [.and_B, .and_C, .and_D, .and_E, .and_H, .and_L, .and_atHL, .and_A, .xor_B, .xor_C, .xor_D, .xor_E, .xor_H,
    .xor_L, .xor_atHL, .xor_A]

/-- R100: the primary bytes 0xB0 to 0xBF. -/
def primaryRowB (_lo _hi : Byte) : List Instr :=
  [.or_B, .or_C, .or_D, .or_E, .or_H, .or_L, .or_atHL, .or_A, .cp_B, .cp_C, .cp_D, .cp_E, .cp_H, .cp_L, .cp_atHL,
    .cp_A]

/-- R100: the primary bytes 0xC0 to 0xCF. -/
def primaryRowC (lo hi : Byte) : List Instr :=
  [.ret_NZ, .pop_BC, .jp_NZ_nn (wordOf hi lo), .jp_nn (wordOf hi lo), .call_NZ_nn (wordOf hi lo), .push_BC,
    .add_A_n lo, .rst_00, .ret_Z, .ret, .jp_Z_nn (wordOf hi lo), .prefix_CB, .call_Z_nn (wordOf hi lo),
    .call_nn (wordOf hi lo), .adc_A_n lo, .rst_08]

/-- R100: the primary bytes 0xD0 to 0xDF. -/
def primaryRowD (lo hi : Byte) : List Instr :=
  [.ret_NC, .pop_DE, .jp_NC_nn (wordOf hi lo), .unmapped 0xD3#8, .call_NC_nn (wordOf hi lo), .push_DE, .sub_n lo,
    .rst_10, .ret_C, .reti, .jp_C_nn (wordOf hi lo), .unmapped 0xDB#8, .call_C_nn (wordOf hi lo), .unmapped 0xDD#8,
    .sbc_A_n lo, .rst_18]

/-- R100: the primary bytes 0xE0 to 0xEF. -/
def primaryRowE (lo hi : Byte) : List Instr :=
  [.ldh_atN_A lo, .pop_HL, .ld_atC_A, .unmapped 0xE3#8, .unmapped 0xE4#8, .push_HL, .and_n lo, .rst_20,
    .add_SP_e lo, .jp_atHL, .ld_atNN_A (wordOf hi lo), .unmapped 0xEB#8, .unmapped 0xEC#8, .unmapped 0xED#8,
    .xor_n lo, .rst_28]

/-- R100: the primary bytes 0xF0 to 0xFF. -/
def primaryRowF (lo hi : Byte) : List Instr :=
  [.ldh_A_atN lo, .pop_AF, .ld_A_atC, .di, .unmapped 0xF4#8, .push_AF, .or_n lo, .rst_30, .ld_HL_SPe lo, .ld_SP_HL,
    .ld_A_atNN (wordOf hi lo), .ei, .unmapped 0xFC#8, .unmapped 0xFD#8, .cp_n lo, .rst_38]

/-- R102: the extended bytes 0x00 to 0x0F. -/
def extendedRow0 : List Instr :=
  [.rlc_B, .rlc_C, .rlc_D, .rlc_E, .rlc_H, .rlc_L, .rlc_atHL, .rlc_A, .rrc_B, .rrc_C, .rrc_D, .rrc_E, .rrc_H,
    .rrc_L, .rrc_atHL, .rrc_A]

/-- R102: the extended bytes 0x10 to 0x1F. -/
def extendedRow1 : List Instr :=
  [.rl_B, .rl_C, .rl_D, .rl_E, .rl_H, .rl_L, .rl_atHL, .rl_A, .rr_B, .rr_C, .rr_D, .rr_E, .rr_H, .rr_L, .rr_atHL,
    .rr_A]

/-- R102: the extended bytes 0x20 to 0x2F. -/
def extendedRow2 : List Instr :=
  [.sla_B, .sla_C, .sla_D, .sla_E, .sla_H, .sla_L, .sla_atHL, .sla_A, .sra_B, .sra_C, .sra_D, .sra_E, .sra_H,
    .sra_L, .sra_atHL, .sra_A]

/-- R102: the extended bytes 0x30 to 0x3F. -/
def extendedRow3 : List Instr :=
  [.swap_B, .swap_C, .swap_D, .swap_E, .swap_H, .swap_L, .swap_atHL, .swap_A, .srl_B, .srl_C, .srl_D, .srl_E,
    .srl_H, .srl_L, .srl_atHL, .srl_A]

/-- R102: the extended bytes 0x40 to 0x4F. -/
def extendedRow4 : List Instr :=
  [.bit_0_B, .bit_0_C, .bit_0_D, .bit_0_E, .bit_0_H, .bit_0_L, .bit_0_atHL, .bit_0_A, .bit_1_B, .bit_1_C, .bit_1_D,
    .bit_1_E, .bit_1_H, .bit_1_L, .bit_1_atHL, .bit_1_A]

/-- R102: the extended bytes 0x50 to 0x5F. -/
def extendedRow5 : List Instr :=
  [.bit_2_B, .bit_2_C, .bit_2_D, .bit_2_E, .bit_2_H, .bit_2_L, .bit_2_atHL, .bit_2_A, .bit_3_B, .bit_3_C, .bit_3_D,
    .bit_3_E, .bit_3_H, .bit_3_L, .bit_3_atHL, .bit_3_A]

/-- R102: the extended bytes 0x60 to 0x6F. -/
def extendedRow6 : List Instr :=
  [.bit_4_B, .bit_4_C, .bit_4_D, .bit_4_E, .bit_4_H, .bit_4_L, .bit_4_atHL, .bit_4_A, .bit_5_B, .bit_5_C, .bit_5_D,
    .bit_5_E, .bit_5_H, .bit_5_L, .bit_5_atHL, .bit_5_A]

/-- R102: the extended bytes 0x70 to 0x7F. -/
def extendedRow7 : List Instr :=
  [.bit_6_B, .bit_6_C, .bit_6_D, .bit_6_E, .bit_6_H, .bit_6_L, .bit_6_atHL, .bit_6_A, .bit_7_B, .bit_7_C, .bit_7_D,
    .bit_7_E, .bit_7_H, .bit_7_L, .bit_7_atHL, .bit_7_A]

/-- R102: the extended bytes 0x80 to 0x8F. -/
def extendedRow8 : List Instr :=
  [.res_0_B, .res_0_C, .res_0_D, .res_0_E, .res_0_H, .res_0_L, .res_0_atHL, .res_0_A, .res_1_B, .res_1_C, .res_1_D,
    .res_1_E, .res_1_H, .res_1_L, .res_1_atHL, .res_1_A]

/-- R102: the extended bytes 0x90 to 0x9F. -/
def extendedRow9 : List Instr :=
  [.res_2_B, .res_2_C, .res_2_D, .res_2_E, .res_2_H, .res_2_L, .res_2_atHL, .res_2_A, .res_3_B, .res_3_C, .res_3_D,
    .res_3_E, .res_3_H, .res_3_L, .res_3_atHL, .res_3_A]

/-- R102: the extended bytes 0xA0 to 0xAF. -/
def extendedRowA : List Instr :=
  [.res_4_B, .res_4_C, .res_4_D, .res_4_E, .res_4_H, .res_4_L, .res_4_atHL, .res_4_A, .res_5_B, .res_5_C, .res_5_D,
    .res_5_E, .res_5_H, .res_5_L, .res_5_atHL, .res_5_A]

/-- R102: the extended bytes 0xB0 to 0xBF. -/
def extendedRowB : List Instr :=
  [.res_6_B, .res_6_C, .res_6_D, .res_6_E, .res_6_H, .res_6_L, .res_6_atHL, .res_6_A, .res_7_B, .res_7_C, .res_7_D,
    .res_7_E, .res_7_H, .res_7_L, .res_7_atHL, .res_7_A]

/-- R102: the extended bytes 0xC0 to 0xCF. -/
def extendedRowC : List Instr :=
  [.set_0_B, .set_0_C, .set_0_D, .set_0_E, .set_0_H, .set_0_L, .set_0_atHL, .set_0_A, .set_1_B, .set_1_C, .set_1_D,
    .set_1_E, .set_1_H, .set_1_L, .set_1_atHL, .set_1_A]

/-- R102: the extended bytes 0xD0 to 0xDF. -/
def extendedRowD : List Instr :=
  [.set_2_B, .set_2_C, .set_2_D, .set_2_E, .set_2_H, .set_2_L, .set_2_atHL, .set_2_A, .set_3_B, .set_3_C, .set_3_D,
    .set_3_E, .set_3_H, .set_3_L, .set_3_atHL, .set_3_A]

/-- R102: the extended bytes 0xE0 to 0xEF. -/
def extendedRowE : List Instr :=
  [.set_4_B, .set_4_C, .set_4_D, .set_4_E, .set_4_H, .set_4_L, .set_4_atHL, .set_4_A, .set_5_B, .set_5_C, .set_5_D,
    .set_5_E, .set_5_H, .set_5_L, .set_5_atHL, .set_5_A]

/-- R102: the extended bytes 0xF0 to 0xFF. -/
def extendedRowF : List Instr :=
  [.set_6_B, .set_6_C, .set_6_D, .set_6_E, .set_6_H, .set_6_L, .set_6_atHL, .set_6_A, .set_7_B, .set_7_C, .set_7_D,
    .set_7_E, .set_7_H, .set_7_L, .set_7_atHL, .set_7_A]

/-- The primary map (R100), given the operand bytes of the instruction. -/
def primaryMap (lo hi : Byte) : List (List Instr) :=
  [primaryRow0 lo hi, primaryRow1 lo hi, primaryRow2 lo hi, primaryRow3 lo hi, primaryRow4 lo hi,
    primaryRow5 lo hi, primaryRow6 lo hi, primaryRow7 lo hi, primaryRow8 lo hi, primaryRow9 lo hi,
    primaryRowA lo hi, primaryRowB lo hi, primaryRowC lo hi, primaryRowD lo hi, primaryRowE lo hi,
    primaryRowF lo hi]

/-- The extended map (R102). -/
def extendedMap : List (List Instr) :=
  [extendedRow0, extendedRow1, extendedRow2, extendedRow3, extendedRow4, extendedRow5, extendedRow6, extendedRow7,
    extendedRow8, extendedRow9, extendedRowA, extendedRowB, extendedRowC, extendedRowD, extendedRowE, extendedRowF]

/-- The entry of a map at an opcode byte: the row of its high nibble, the column of its low nibble. A byte the map had no
entry for would be `unmapped`. -/
def mapEntry (rows : List (List Instr)) (op : Byte) : Instr :=
  (((rows[op.toNat / 16]?).getD [])[op.toNat % 16]?).getD (.unmapped op)

/-- The instruction that an opcode byte and its operand bytes stand for in a decode mode (R100, R102). Total: "each of the
512 (mode, byte) combinations is either mapped or raises `UnimplementedOpcode`" (R109); the latter are `unmapped op`. -/
def decodeOp (m : DecodeMode) (op lo hi : Byte) : Instr :=
  match m with
  | .primary => mapEntry (primaryMap lo hi) op
  | .extended => mapEntry extendedMap op

/-- Why a list of bytes is no instruction: it ends too early. -/
inductive DecodeReject where
  | noOpcode
  | missingOperand (op : Byte)
deriving DecidableEq, Repr

/-- The first instruction of a list of bytes in a decode mode, and the bytes after it: the opcode, then the operand bytes its
first byte alone decides, low byte first (R90, R91, R99, R109). -/
def decode (m : DecodeMode) (bytes : List Byte) : Except DecodeReject (Instr × List Byte) :=
  match bytes with
  | [] => .error .noOpcode
  | op :: rest =>
    match operandCount m op, rest with
    | 0, _ => .ok (decodeOp m op 0#8 0#8, rest)
    | 1, lo :: rest' => .ok (decodeOp m op lo 0#8, rest')
    | 2, lo :: hi :: rest' => .ok (decodeOp m op lo hi, rest')
    | _, _ => .error (.missingOperand op)

/-- The first instruction of a list of bytes read as a program text: a prefix 0xCB with a byte after it is the two-byte form
of an extended instruction (R90, R91 format FCB), everything else is a primary instruction. -/
def decodeText (bytes : List Byte) : Except DecodeReject (Instr × List Byte) :=
  match bytes with
  | [] => .error .noOpcode
  | [op] => decode .primary [op]
  | op :: next :: rest => if op = 0xCB#8 then decode .extended (next :: rest) else decode .primary (op :: next :: rest)

/-! ## The encoder -/

/-- The table an instruction belongs to and its opcode byte there (R100, R102). -/
def Instr.code : Instr → DecodeMode × Byte
  | .nop => (.primary, 0x00#8)
  | .ld_BC_nn _ => (.primary, 0x01#8)
  | .ld_atBC_A => (.primary, 0x02#8)
  | .inc_BC => (.primary, 0x03#8)
  | .inc_B => (.primary, 0x04#8)
  | .dec_B => (.primary, 0x05#8)
  | .ld_B_n _ => (.primary, 0x06#8)
  | .rlca => (.primary, 0x07#8)
  | .ld_atNN_SP _ => (.primary, 0x08#8)
  | .add_HL_BC => (.primary, 0x09#8)
  | .ld_A_atBC => (.primary, 0x0A#8)
  | .dec_BC => (.primary, 0x0B#8)
  | .inc_C => (.primary, 0x0C#8)
  | .dec_C => (.primary, 0x0D#8)
  | .ld_C_n _ => (.primary, 0x0E#8)
  | .rrca => (.primary, 0x0F#8)
  | .stop _ => (.primary, 0x10#8)
  | .ld_DE_nn _ => (.primary, 0x11#8)
  | .ld_atDE_A => (.primary, 0x12#8)
  | .inc_DE => (.primary, 0x13#8)
  | .inc_D => (.primary, 0x14#8)
  | .dec_D => (.primary, 0x15#8)
  | .ld_D_n _ => (.primary, 0x16#8)
  | .rla => (.primary, 0x17#8)
  | .jr_e _ => (.primary, 0x18#8)
  | .add_HL_DE => (.primary, 0x19#8)
  | .ld_A_atDE => (.primary, 0x1A#8)
  | .dec_DE => (.primary, 0x1B#8)
  | .inc_E => (.primary, 0x1C#8)
  | .dec_E => (.primary, 0x1D#8)
  | .ld_E_n _ => (.primary, 0x1E#8)
  | .rra => (.primary, 0x1F#8)
  | .jr_NZ_e _ => (.primary, 0x20#8)
  | .ld_HL_nn _ => (.primary, 0x21#8)
  | .ld_atHLinc_A => (.primary, 0x22#8)
  | .inc_HL => (.primary, 0x23#8)
  | .inc_H => (.primary, 0x24#8)
  | .dec_H => (.primary, 0x25#8)
  | .ld_H_n _ => (.primary, 0x26#8)
  | .daa => (.primary, 0x27#8)
  | .jr_Z_e _ => (.primary, 0x28#8)
  | .add_HL_HL => (.primary, 0x29#8)
  | .ld_A_atHLinc => (.primary, 0x2A#8)
  | .dec_HL => (.primary, 0x2B#8)
  | .inc_L => (.primary, 0x2C#8)
  | .dec_L => (.primary, 0x2D#8)
  | .ld_L_n _ => (.primary, 0x2E#8)
  | .cpl => (.primary, 0x2F#8)
  | .jr_NC_e _ => (.primary, 0x30#8)
  | .ld_SP_nn _ => (.primary, 0x31#8)
  | .ld_atHLdec_A => (.primary, 0x32#8)
  | .inc_SP => (.primary, 0x33#8)
  | .inc_atHL => (.primary, 0x34#8)
  | .dec_atHL => (.primary, 0x35#8)
  | .ld_atHL_n _ => (.primary, 0x36#8)
  | .scf => (.primary, 0x37#8)
  | .jr_C_e _ => (.primary, 0x38#8)
  | .add_HL_SP => (.primary, 0x39#8)
  | .ld_A_atHLdec => (.primary, 0x3A#8)
  | .dec_SP => (.primary, 0x3B#8)
  | .inc_A => (.primary, 0x3C#8)
  | .dec_A => (.primary, 0x3D#8)
  | .ld_A_n _ => (.primary, 0x3E#8)
  | .ccf => (.primary, 0x3F#8)
  | .ld_B_B => (.primary, 0x40#8)
  | .ld_B_C => (.primary, 0x41#8)
  | .ld_B_D => (.primary, 0x42#8)
  | .ld_B_E => (.primary, 0x43#8)
  | .ld_B_H => (.primary, 0x44#8)
  | .ld_B_L => (.primary, 0x45#8)
  | .ld_B_atHL => (.primary, 0x46#8)
  | .ld_B_A => (.primary, 0x47#8)
  | .ld_C_B => (.primary, 0x48#8)
  | .ld_C_C => (.primary, 0x49#8)
  | .ld_C_D => (.primary, 0x4A#8)
  | .ld_C_E => (.primary, 0x4B#8)
  | .ld_C_H => (.primary, 0x4C#8)
  | .ld_C_L => (.primary, 0x4D#8)
  | .ld_C_atHL => (.primary, 0x4E#8)
  | .ld_C_A => (.primary, 0x4F#8)
  | .ld_D_B => (.primary, 0x50#8)
  | .ld_D_C => (.primary, 0x51#8)
  | .ld_D_D => (.primary, 0x52#8)
  | .ld_D_E => (.primary, 0x53#8)
  | .ld_D_H => (.primary, 0x54#8)
  | .ld_D_L => (.primary, 0x55#8)
  | .ld_D_atHL => (.primary, 0x56#8)
  | .ld_D_A => (.primary, 0x57#8)
  | .ld_E_B => (.primary, 0x58#8)
  | .ld_E_C => (.primary, 0x59#8)
  | .ld_E_D => (.primary, 0x5A#8)
  | .ld_E_E => (.primary, 0x5B#8)
  | .ld_E_H => (.primary, 0x5C#8)
  | .ld_E_L => (.primary, 0x5D#8)
  | .ld_E_atHL => (.primary, 0x5E#8)
  | .ld_E_A => (.primary, 0x5F#8)
  | .ld_H_B => (.primary, 0x60#8)
  | .ld_H_C => (.primary, 0x61#8)
  | .ld_H_D => (.primary, 0x62#8)
  | .ld_H_E => (.primary, 0x63#8)
  | .ld_H_H => (.primary, 0x64#8)
  | .ld_H_L => (.primary, 0x65#8)
  | .ld_H_atHL => (.primary, 0x66#8)
  | .ld_H_A => (.primary, 0x67#8)
  | .ld_L_B => (.primary, 0x68#8)
  | .ld_L_C => (.primary, 0x69#8)
  | .ld_L_D => (.primary, 0x6A#8)
  | .ld_L_E => (.primary, 0x6B#8)
  | .ld_L_H => (.primary, 0x6C#8)
  | .ld_L_L => (.primary, 0x6D#8)
  | .ld_L_atHL => (.primary, 0x6E#8)
  | .ld_L_A => (.primary, 0x6F#8)
  | .ld_atHL_B => (.primary, 0x70#8)
  | .ld_atHL_C => (.primary, 0x71#8)
  | .ld_atHL_D => (.primary, 0x72#8)
  | .ld_atHL_E => (.primary, 0x73#8)
  | .ld_atHL_H => (.primary, 0x74#8)
  | .ld_atHL_L => (.primary, 0x75#8)
  | .halt => (.primary, 0x76#8)
  | .ld_atHL_A => (.primary, 0x77#8)
  | .ld_A_B => (.primary, 0x78#8)
  | .ld_A_C => (.primary, 0x79#8)
  | .ld_A_D => (.primary, 0x7A#8)
  | .ld_A_E => (.primary, 0x7B#8)
  | .ld_A_H => (.primary, 0x7C#8)
  | .ld_A_L => (.primary, 0x7D#8)
  | .ld_A_atHL => (.primary, 0x7E#8)
  | .ld_A_A => (.primary, 0x7F#8)
  | .add_A_B => (.primary, 0x80#8)
  | .add_A_C => (.primary, 0x81#8)
  | .add_A_D => (.primary, 0x82#8)
  | .add_A_E => (.primary, 0x83#8)
  | .add_A_H => (.primary, 0x84#8)
  | .add_A_L => (.primary, 0x85#8)
  | .add_A_atHL => (.primary, 0x86#8)
  | .add_A_A => (.primary, 0x87#8)
  | .adc_A_B => (.primary, 0x88#8)
  | .adc_A_C => (.primary, 0x89#8)
  | .adc_A_D => (.primary, 0x8A#8)
  | .adc_A_E => (.primary, 0x8B#8)
  | .adc_A_H => (.primary, 0x8C#8)
  | .adc_A_L => (.primary, 0x8D#8)
  | .adc_A_atHL => (.primary, 0x8E#8)
  | .adc_A_A => (.primary, 0x8F#8)
  | .sub_B => (.primary, 0x90#8)
  | .sub_C => (.primary, 0x91#8)
  | .sub_D => (.primary, 0x92#8)
  | .sub_E => (.primary, 0x93#8)
  | .sub_H => (.primary, 0x94#8)
  | .sub_L => (.primary, 0x95#8)
  | .sub_atHL => (.primary, 0x96#8)
  | .sub_A => (.primary, 0x97#8)
  | .sbc_A_B => (.primary, 0x98#8)
  | .sbc_A_C => (.primary, 0x99#8)
  | .sbc_A_D => (.primary, 0x9A#8)
  | .sbc_A_E => (.primary, 0x9B#8)
  | .sbc_A_H => (.primary, 0x9C#8)
  | .sbc_A_L => (.primary, 0x9D#8)
  | .sbc_A_atHL => (.primary, 0x9E#8)
  | .sbc_A_A => (.primary, 0x9F#8)
  | .and_B => (.primary, 0xA0#8)
  | .and_C => (.primary, 0xA1#8)
  | .and_D => (.primary, 0xA2#8)
  | .and_E => (.primary, 0xA3#8)
  | .and_H => (.primary, 0xA4#8)
  | .and_L => (.primary, 0xA5#8)
  | .and_atHL => (.primary, 0xA6#8)
  | .and_A => (.primary, 0xA7#8)
  | .xor_B => (.primary, 0xA8#8)
  | .xor_C => (.primary, 0xA9#8)
  | .xor_D => (.primary, 0xAA#8)
  | .xor_E => (.primary, 0xAB#8)
  | .xor_H => (.primary, 0xAC#8)
  | .xor_L => (.primary, 0xAD#8)
  | .xor_atHL => (.primary, 0xAE#8)
  | .xor_A => (.primary, 0xAF#8)
  | .or_B => (.primary, 0xB0#8)
  | .or_C => (.primary, 0xB1#8)
  | .or_D => (.primary, 0xB2#8)
  | .or_E => (.primary, 0xB3#8)
  | .or_H => (.primary, 0xB4#8)
  | .or_L => (.primary, 0xB5#8)
  | .or_atHL => (.primary, 0xB6#8)
  | .or_A => (.primary, 0xB7#8)
  | .cp_B => (.primary, 0xB8#8)
  | .cp_C => (.primary, 0xB9#8)
  | .cp_D => (.primary, 0xBA#8)
  | .cp_E => (.primary, 0xBB#8)
  | .cp_H => (.primary, 0xBC#8)
  | .cp_L => (.primary, 0xBD#8)
  | .cp_atHL => (.primary, 0xBE#8)
  | .cp_A => (.primary, 0xBF#8)
  | .ret_NZ => (.primary, 0xC0#8)
  | .pop_BC => (.primary, 0xC1#8)
  | .jp_NZ_nn _ => (.primary, 0xC2#8)
  | .jp_nn _ => (.primary, 0xC3#8)
  | .call_NZ_nn _ => (.primary, 0xC4#8)
  | .push_BC => (.primary, 0xC5#8)
  | .add_A_n _ => (.primary, 0xC6#8)
  | .rst_00 => (.primary, 0xC7#8)
  | .ret_Z => (.primary, 0xC8#8)
  | .ret => (.primary, 0xC9#8)
  | .jp_Z_nn _ => (.primary, 0xCA#8)
  | .prefix_CB => (.primary, 0xCB#8)
  | .call_Z_nn _ => (.primary, 0xCC#8)
  | .call_nn _ => (.primary, 0xCD#8)
  | .adc_A_n _ => (.primary, 0xCE#8)
  | .rst_08 => (.primary, 0xCF#8)
  | .ret_NC => (.primary, 0xD0#8)
  | .pop_DE => (.primary, 0xD1#8)
  | .jp_NC_nn _ => (.primary, 0xD2#8)
  | .unmapped op => (.primary, op)
  | .call_NC_nn _ => (.primary, 0xD4#8)
  | .push_DE => (.primary, 0xD5#8)
  | .sub_n _ => (.primary, 0xD6#8)
  | .rst_10 => (.primary, 0xD7#8)
  | .ret_C => (.primary, 0xD8#8)
  | .reti => (.primary, 0xD9#8)
  | .jp_C_nn _ => (.primary, 0xDA#8)
  | .call_C_nn _ => (.primary, 0xDC#8)
  | .sbc_A_n _ => (.primary, 0xDE#8)
  | .rst_18 => (.primary, 0xDF#8)
  | .ldh_atN_A _ => (.primary, 0xE0#8)
  | .pop_HL => (.primary, 0xE1#8)
  | .ld_atC_A => (.primary, 0xE2#8)
  | .push_HL => (.primary, 0xE5#8)
  | .and_n _ => (.primary, 0xE6#8)
  | .rst_20 => (.primary, 0xE7#8)
  | .add_SP_e _ => (.primary, 0xE8#8)
  | .jp_atHL => (.primary, 0xE9#8)
  | .ld_atNN_A _ => (.primary, 0xEA#8)
  | .xor_n _ => (.primary, 0xEE#8)
  | .rst_28 => (.primary, 0xEF#8)
  | .ldh_A_atN _ => (.primary, 0xF0#8)
  | .pop_AF => (.primary, 0xF1#8)
  | .ld_A_atC => (.primary, 0xF2#8)
  | .di => (.primary, 0xF3#8)
  | .push_AF => (.primary, 0xF5#8)
  | .or_n _ => (.primary, 0xF6#8)
  | .rst_30 => (.primary, 0xF7#8)
  | .ld_HL_SPe _ => (.primary, 0xF8#8)
  | .ld_SP_HL => (.primary, 0xF9#8)
  | .ld_A_atNN _ => (.primary, 0xFA#8)
  | .ei => (.primary, 0xFB#8)
  | .cp_n _ => (.primary, 0xFE#8)
  | .rst_38 => (.primary, 0xFF#8)
  | .rlc_B => (.extended, 0x00#8)
  | .rlc_C => (.extended, 0x01#8)
  | .rlc_D => (.extended, 0x02#8)
  | .rlc_E => (.extended, 0x03#8)
  | .rlc_H => (.extended, 0x04#8)
  | .rlc_L => (.extended, 0x05#8)
  | .rlc_atHL => (.extended, 0x06#8)
  | .rlc_A => (.extended, 0x07#8)
  | .rrc_B => (.extended, 0x08#8)
  | .rrc_C => (.extended, 0x09#8)
  | .rrc_D => (.extended, 0x0A#8)
  | .rrc_E => (.extended, 0x0B#8)
  | .rrc_H => (.extended, 0x0C#8)
  | .rrc_L => (.extended, 0x0D#8)
  | .rrc_atHL => (.extended, 0x0E#8)
  | .rrc_A => (.extended, 0x0F#8)
  | .rl_B => (.extended, 0x10#8)
  | .rl_C => (.extended, 0x11#8)
  | .rl_D => (.extended, 0x12#8)
  | .rl_E => (.extended, 0x13#8)
  | .rl_H => (.extended, 0x14#8)
  | .rl_L => (.extended, 0x15#8)
  | .rl_atHL => (.extended, 0x16#8)
  | .rl_A => (.extended, 0x17#8)
  | .rr_B => (.extended, 0x18#8)
  | .rr_C => (.extended, 0x19#8)
  | .rr_D => (.extended, 0x1A#8)
  | .rr_E => (.extended, 0x1B#8)
  | .rr_H => (.extended, 0x1C#8)
  | .rr_L => (.extended, 0x1D#8)
  | .rr_atHL => (.extended, 0x1E#8)
  | .rr_A => (.extended, 0x1F#8)
  | .sla_B => (.extended, 0x20#8)
  | .sla_C => (.extended, 0x21#8)
  | .sla_D => (.extended, 0x22#8)
  | .sla_E => (.extended, 0x23#8)
  | .sla_H => (.extended, 0x24#8)
  | .sla_L => (.extended, 0x25#8)
  | .sla_atHL => (.extended, 0x26#8)
  | .sla_A => (.extended, 0x27#8)
  | .sra_B => (.extended, 0x28#8)
  | .sra_C => (.extended, 0x29#8)
  | .sra_D => (.extended, 0x2A#8)
  | .sra_E => (.extended, 0x2B#8)
  | .sra_H => (.extended, 0x2C#8)
  | .sra_L => (.extended, 0x2D#8)
  | .sra_atHL => (.extended, 0x2E#8)
  | .sra_A => (.extended, 0x2F#8)
  | .swap_B => (.extended, 0x30#8)
  | .swap_C => (.extended, 0x31#8)
  | .swap_D => (.extended, 0x32#8)
  | .swap_E => (.extended, 0x33#8)
  | .swap_H => (.extended, 0x34#8)
  | .swap_L => (.extended, 0x35#8)
  | .swap_atHL => (.extended, 0x36#8)
  | .swap_A => (.extended, 0x37#8)
  | .srl_B => (.extended, 0x38#8)
  | .srl_C => (.extended, 0x39#8)
  | .srl_D => (.extended, 0x3A#8)
  | .srl_E => (.extended, 0x3B#8)
  | .srl_H => (.extended, 0x3C#8)
  | .srl_L => (.extended, 0x3D#8)
  | .srl_atHL => (.extended, 0x3E#8)
  | .srl_A => (.extended, 0x3F#8)
  | .bit_0_B => (.extended, 0x40#8)
  | .bit_0_C => (.extended, 0x41#8)
  | .bit_0_D => (.extended, 0x42#8)
  | .bit_0_E => (.extended, 0x43#8)
  | .bit_0_H => (.extended, 0x44#8)
  | .bit_0_L => (.extended, 0x45#8)
  | .bit_0_atHL => (.extended, 0x46#8)
  | .bit_0_A => (.extended, 0x47#8)
  | .bit_1_B => (.extended, 0x48#8)
  | .bit_1_C => (.extended, 0x49#8)
  | .bit_1_D => (.extended, 0x4A#8)
  | .bit_1_E => (.extended, 0x4B#8)
  | .bit_1_H => (.extended, 0x4C#8)
  | .bit_1_L => (.extended, 0x4D#8)
  | .bit_1_atHL => (.extended, 0x4E#8)
  | .bit_1_A => (.extended, 0x4F#8)
  | .bit_2_B => (.extended, 0x50#8)
  | .bit_2_C => (.extended, 0x51#8)
  | .bit_2_D => (.extended, 0x52#8)
  | .bit_2_E => (.extended, 0x53#8)
  | .bit_2_H => (.extended, 0x54#8)
  | .bit_2_L => (.extended, 0x55#8)
  | .bit_2_atHL => (.extended, 0x56#8)
  | .bit_2_A => (.extended, 0x57#8)
  | .bit_3_B => (.extended, 0x58#8)
  | .bit_3_C => (.extended, 0x59#8)
  | .bit_3_D => (.extended, 0x5A#8)
  | .bit_3_E => (.extended, 0x5B#8)
  | .bit_3_H => (.extended, 0x5C#8)
  | .bit_3_L => (.extended, 0x5D#8)
  | .bit_3_atHL => (.extended, 0x5E#8)
  | .bit_3_A => (.extended, 0x5F#8)
  | .bit_4_B => (.extended, 0x60#8)
  | .bit_4_C => (.extended, 0x61#8)
  | .bit_4_D => (.extended, 0x62#8)
  | .bit_4_E => (.extended, 0x63#8)
  | .bit_4_H => (.extended, 0x64#8)
  | .bit_4_L => (.extended, 0x65#8)
  | .bit_4_atHL => (.extended, 0x66#8)
  | .bit_4_A => (.extended, 0x67#8)
  | .bit_5_B => (.extended, 0x68#8)
  | .bit_5_C => (.extended, 0x69#8)
  | .bit_5_D => (.extended, 0x6A#8)
  | .bit_5_E => (.extended, 0x6B#8)
  | .bit_5_H => (.extended, 0x6C#8)
  | .bit_5_L => (.extended, 0x6D#8)
  | .bit_5_atHL => (.extended, 0x6E#8)
  | .bit_5_A => (.extended, 0x6F#8)
  | .bit_6_B => (.extended, 0x70#8)
  | .bit_6_C => (.extended, 0x71#8)
  | .bit_6_D => (.extended, 0x72#8)
  | .bit_6_E => (.extended, 0x73#8)
  | .bit_6_H => (.extended, 0x74#8)
  | .bit_6_L => (.extended, 0x75#8)
  | .bit_6_atHL => (.extended, 0x76#8)
  | .bit_6_A => (.extended, 0x77#8)
  | .bit_7_B => (.extended, 0x78#8)
  | .bit_7_C => (.extended, 0x79#8)
  | .bit_7_D => (.extended, 0x7A#8)
  | .bit_7_E => (.extended, 0x7B#8)
  | .bit_7_H => (.extended, 0x7C#8)
  | .bit_7_L => (.extended, 0x7D#8)
  | .bit_7_atHL => (.extended, 0x7E#8)
  | .bit_7_A => (.extended, 0x7F#8)
  | .res_0_B => (.extended, 0x80#8)
  | .res_0_C => (.extended, 0x81#8)
  | .res_0_D => (.extended, 0x82#8)
  | .res_0_E => (.extended, 0x83#8)
  | .res_0_H => (.extended, 0x84#8)
  | .res_0_L => (.extended, 0x85#8)
  | .res_0_atHL => (.extended, 0x86#8)
  | .res_0_A => (.extended, 0x87#8)
  | .res_1_B => (.extended, 0x88#8)
  | .res_1_C => (.extended, 0x89#8)
  | .res_1_D => (.extended, 0x8A#8)
  | .res_1_E => (.extended, 0x8B#8)
  | .res_1_H => (.extended, 0x8C#8)
  | .res_1_L => (.extended, 0x8D#8)
  | .res_1_atHL => (.extended, 0x8E#8)
  | .res_1_A => (.extended, 0x8F#8)
  | .res_2_B => (.extended, 0x90#8)
  | .res_2_C => (.extended, 0x91#8)
  | .res_2_D => (.extended, 0x92#8)
  | .res_2_E => (.extended, 0x93#8)
  | .res_2_H => (.extended, 0x94#8)
  | .res_2_L => (.extended, 0x95#8)
  | .res_2_atHL => (.extended, 0x96#8)
  | .res_2_A => (.extended, 0x97#8)
  | .res_3_B => (.extended, 0x98#8)
  | .res_3_C => (.extended, 0x99#8)
  | .res_3_D => (.extended, 0x9A#8)
  | .res_3_E => (.extended, 0x9B#8)
  | .res_3_H => (.extended, 0x9C#8)
  | .res_3_L => (.extended, 0x9D#8)
  | .res_3_atHL => (.extended, 0x9E#8)
  | .res_3_A => (.extended, 0x9F#8)
  | .res_4_B => (.extended, 0xA0#8)
  | .res_4_C => (.extended, 0xA1#8)
  | .res_4_D => (.extended, 0xA2#8)
  | .res_4_E => (.extended, 0xA3#8)
  | .res_4_H => (.extended, 0xA4#8)
  | .res_4_L => (.extended, 0xA5#8)
  | .res_4_atHL => (.extended, 0xA6#8)
  | .res_4_A => (.extended, 0xA7#8)
  | .res_5_B => (.extended, 0xA8#8)
  | .res_5_C => (.extended, 0xA9#8)
  | .res_5_D => (.extended, 0xAA#8)
  | .res_5_E => (.extended, 0xAB#8)
  | .res_5_H => (.extended, 0xAC#8)
  | .res_5_L => (.extended, 0xAD#8)
  | .res_5_atHL => (.extended, 0xAE#8)
  | .res_5_A => (.extended, 0xAF#8)
  | .res_6_B => (.extended, 0xB0#8)
  | .res_6_C => (.extended, 0xB1#8)
  | .res_6_D => (.extended, 0xB2#8)
  | .res_6_E => (.extended, 0xB3#8)
  | .res_6_H => (.extended, 0xB4#8)
  | .res_6_L => (.extended, 0xB5#8)
  | .res_6_atHL => (.extended, 0xB6#8)
  | .res_6_A => (.extended, 0xB7#8)
  | .res_7_B => (.extended, 0xB8#8)
  | .res_7_C => (.extended, 0xB9#8)
  | .res_7_D => (.extended, 0xBA#8)
  | .res_7_E => (.extended, 0xBB#8)
  | .res_7_H => (.extended, 0xBC#8)
  | .res_7_L => (.extended, 0xBD#8)
  | .res_7_atHL => (.extended, 0xBE#8)
  | .res_7_A => (.extended, 0xBF#8)
  | .set_0_B => (.extended, 0xC0#8)
  | .set_0_C => (.extended, 0xC1#8)
  | .set_0_D => (.extended, 0xC2#8)
  | .set_0_E => (.extended, 0xC3#8)
  | .set_0_H => (.extended, 0xC4#8)
  | .set_0_L => (.extended, 0xC5#8)
  | .set_0_atHL => (.extended, 0xC6#8)
  | .set_0_A => (.extended, 0xC7#8)
  | .set_1_B => (.extended, 0xC8#8)
  | .set_1_C => (.extended, 0xC9#8)
  | .set_1_D => (.extended, 0xCA#8)
  | .set_1_E => (.extended, 0xCB#8)
  | .set_1_H => (.extended, 0xCC#8)
  | .set_1_L => (.extended, 0xCD#8)
  | .set_1_atHL => (.extended, 0xCE#8)
  | .set_1_A => (.extended, 0xCF#8)
  | .set_2_B => (.extended, 0xD0#8)
  | .set_2_C => (.extended, 0xD1#8)
  | .set_2_D => (.extended, 0xD2#8)
  | .set_2_E => (.extended, 0xD3#8)
  | .set_2_H => (.extended, 0xD4#8)
  | .set_2_L => (.extended, 0xD5#8)
  | .set_2_atHL => (.extended, 0xD6#8)
  | .set_2_A => (.extended, 0xD7#8)
  | .set_3_B => (.extended, 0xD8#8)
  | .set_3_C => (.extended, 0xD9#8)
  | .set_3_D => (.extended, 0xDA#8)
  | .set_3_E => (.extended, 0xDB#8)
  | .set_3_H => (.extended, 0xDC#8)
  | .set_3_L => (.extended, 0xDD#8)
  | .set_3_atHL => (.extended, 0xDE#8)
  | .set_3_A => (.extended, 0xDF#8)
  | .set_4_B => (.extended, 0xE0#8)
  | .set_4_C => (.extended, 0xE1#8)
  | .set_4_D => (.extended, 0xE2#8)
  | .set_4_E => (.extended, 0xE3#8)
  | .set_4_H => (.extended, 0xE4#8)
  | .set_4_L => (.extended, 0xE5#8)
  | .set_4_atHL => (.extended, 0xE6#8)
  | .set_4_A => (.extended, 0xE7#8)
  | .set_5_B => (.extended, 0xE8#8)
  | .set_5_C => (.extended, 0xE9#8)
  | .set_5_D => (.extended, 0xEA#8)
  | .set_5_E => (.extended, 0xEB#8)
  | .set_5_H => (.extended, 0xEC#8)
  | .set_5_L => (.extended, 0xED#8)
  | .set_5_atHL => (.extended, 0xEE#8)
  | .set_5_A => (.extended, 0xEF#8)
  | .set_6_B => (.extended, 0xF0#8)
  | .set_6_C => (.extended, 0xF1#8)
  | .set_6_D => (.extended, 0xF2#8)
  | .set_6_E => (.extended, 0xF3#8)
  | .set_6_H => (.extended, 0xF4#8)
  | .set_6_L => (.extended, 0xF5#8)
  | .set_6_atHL => (.extended, 0xF6#8)
  | .set_6_A => (.extended, 0xF7#8)
  | .set_7_B => (.extended, 0xF8#8)
  | .set_7_C => (.extended, 0xF9#8)
  | .set_7_D => (.extended, 0xFA#8)
  | .set_7_E => (.extended, 0xFB#8)
  | .set_7_H => (.extended, 0xFC#8)
  | .set_7_L => (.extended, 0xFD#8)
  | .set_7_atHL => (.extended, 0xFE#8)
  | .set_7_A => (.extended, 0xFF#8)

/-- The table an instruction belongs to. -/
def Instr.table (i : Instr) : DecodeMode := i.code.1

/-- The opcode byte of an instruction in its table. -/
def Instr.opcode (i : Instr) : Byte := i.code.2

/-- The operand bytes of an instruction in the order they stand in memory (R91, R99): `n` or `e`, or the low and then the high
byte of `nn`. The last line is the instructions with none. -/
def Instr.operands : Instr → List Byte
  | .ld_BC_nn nn | .ld_atNN_SP nn | .ld_DE_nn nn | .ld_HL_nn nn | .ld_SP_nn nn | .jp_NZ_nn nn | .jp_nn nn
  | .call_NZ_nn nn | .jp_Z_nn nn | .call_Z_nn nn | .call_nn nn | .jp_NC_nn nn | .call_NC_nn nn | .jp_C_nn nn
  | .call_C_nn nn | .ld_atNN_A nn | .ld_A_atNN nn => [loByte nn, hiByte nn]
  | .ld_B_n n | .ld_C_n n | .stop n | .ld_D_n n | .jr_e n | .ld_E_n n | .jr_NZ_e n | .ld_H_n n | .jr_Z_e n
  | .ld_L_n n | .jr_NC_e n | .ld_atHL_n n | .jr_C_e n | .ld_A_n n | .add_A_n n | .adc_A_n n | .sub_n n
  | .sbc_A_n n | .ldh_atN_A n | .and_n n | .add_SP_e n | .xor_n n | .ldh_A_atN n | .or_n n | .ld_HL_SPe n
  | .cp_n n => [n]
  | _ => []

/-- The bytes the step that executes an instruction fetches: its opcode byte and its operand bytes. -/
def Instr.stepBytes (i : Instr) : List Byte := i.opcode :: i.operands

/-- The bytes of an instruction as a program holds them (R91): an extended instruction has the prefix 0xCB before it. -/
def encode (i : Instr) : List Byte :=
  match i.table with
  | .primary => i.stepBytes
  | .extended => 0xCB#8 :: i.stepBytes

/-! ## Words of the opcode table -/

/-- Byte `k` of an instruction whose bits are `w`: bits `8k` to `8k+7`, those from bit `nbits` up being 0. -/
def tableByte (nbits w k : Nat) : Byte := BitVec.ofNat 8 (w % 2 ^ nbits / 2 ^ (8 * k))

/-- Whether a table word is the two-byte form of an extended instruction: its first byte is the prefix and it has more
than eight bits (log entry 13). The prefix alone is the instruction `PREFIX CB`. -/
def tableWordExtended (nbits w : Nat) : Bool := decide (tableByte nbits w 0 = 0xCB#8) && decide (8 < nbits)

/-- The instruction the decoder reads from a word numbered as spec/opcode_table.json numbers it: the first byte in bits
7..0, the second in bits 15..8, the third in bits 23..16. -/
def decodeTableWord (nbits w : Nat) : Option Instr :=
  match
    (if tableWordExtended nbits w then decode .extended [tableByte nbits w 1]
      else decode .primary [tableByte nbits w 0, tableByte nbits w 1, tableByte nbits w 2]) with
  | .ok (i, _) => some i
  | .error _ => none

end Sys2Proof
end

