-- ==== Sys2Proof/Config.lean ====
section
/-! DEFINITION. The implementation parameters of rule R4 as data, their defaults, and the one free value of the model (the
byte an oracle memory answers, R61). -/

namespace Sys2Proof

/-- `UNIMPL_POLICY` (R4, R341): what the caller does with a decode error. -/
inductive UnimplPolicy where
  | abort
  | skip
  | report
deriving DecidableEq, Repr

/-- The two memories R61 lets a model take: plain RAM over all 64K ("a read returns the last byte written, or the launch
contents"), or an oracle that answers reads with any byte. -/
inductive MemoryModel where
  | ram
  | oracle
deriving DecidableEq, Repr

/-- The parameters a run takes as arguments (R4). They stand in `State` as plain data and no step changes them. -/
structure Params where
  /-- `UNIMPL_POLICY`. -/
  unimplPolicy : UnimplPolicy
  /-- `HW_FLAG_COMPAT`: the Z flag of `ADD HL,rr` and of RLCA, RRCA, RLA, RRA follows the silicon instead of the source. -/
  hwFlagCompat : Bool
  /-- `ADMIT_GK`: the sixteen instructions the source never names are executed; `false` refuses them (R105). -/
  admitGK : Bool
  /-- The memory component of R61. -/
  memory : MemoryModel
deriving DecidableEq, Repr

/-- The defaults of R4; the memory is plain RAM (DESIGN CHOICE, log entry 3). -/
def Params.standard : Params :=
  { unimplPolicy := .abort, hwFlagCompat := false, admitGK := true, memory := .ram }

/-- What the reset operation takes (R4, R34): `RESET_REGS`, the values of A, B, C, D, E, F[7:4], H, L and `sp`, and
`RESET_IME`. F[3:0] is not among them: it is 0 in every state (R23). -/
structure ResetParams where
  a : Byte
  b : Byte
  c : Byte
  d : Byte
  e : Byte
  h : Byte
  l : Byte
  /-- F[7:4], the flags Z, N, H, C from bit 3 down to bit 0. -/
  fHigh : BitVec 4
  sp : Word
  ime : Bool
deriving DecidableEq, Repr

/-- FREE VALUE (log entry 4): the byte an oracle memory answers to the read with this running number. Nothing constrains
it (R61: "The core assumes nothing about the value a read returns"). -/
opaque Config.oracleByte : Nat → Byte

end Sys2Proof
end

