-- ==== Sys2Proof/Machine/State.lean ====
section
/-! DEFINITION. The machine's state (10_state.md), the reasons a step can stop, and the state after reset. -/

namespace Sys2Proof.Machine

/-- The run state (R31). -/
inductive RunState where
  | running
  | halted
  | stopped
deriving DecidableEq, Repr

/-- One call of the memory interface (R61): `read(addr)` with the byte it returned, or `write(addr, value)`. -/
inductive Access where
  | read (addr : Word) (value : Byte)
  | write (addr : Word) (value : Byte)
deriving DecidableEq, Repr

/-- The 64 KiB memory (R60): address and byte, addresses strictly rising, no entry equal to what an unlisted address reads
as, so that equal memories are equal lists (`Memory.wf`). -/
abbrev Memory := List Host.Cell

/-- The state of the core (R20 to R38), the memory behind its interface (R61), and the model's own fields. -/
structure State where
  /-- Register A, the accumulator (R20). -/
  a : Byte
  /-- Register F (R20): the flags Z, N, H, C in bits 7 to 4, bits 3 to 0 always zero (R23, R24). -/
  f : Byte
  b : Byte
  c : Byte
  d : Byte
  e : Byte
  h : Byte
  l : Byte
  /-- The program counter (R27). -/
  pc : Word
  /-- The stack pointer (R28). -/
  sp : Word
  /-- The decode mode, the source's `decodeMode` (R29). -/
  mode : DecodeMode
  /-- The interrupt master enable, the source's `interruptsEnabled` (R30). -/
  ime : Bool
  /-- The run state (R31). -/
  run : RunState
  /-- The memory component (R60, R61). -/
  mem : Memory
  /-- The calls of the memory interface the latest step made, oldest first (R65, R74). The model's own field. -/
  bus : List Access
  /-- How many reads an oracle memory has answered (R61). The model's own field; plain RAM never changes it. -/
  busReads : Nat
  /-- The implementation parameters (R4), the arguments of a run. -/
  params : Params
deriving DecidableEq, Repr

/-- `UnimplementedOpcode{byte, mode}` (R340). -/
structure DecodeError where
  byte : Byte
  mode : DecodeMode
deriving DecidableEq, Repr

/-- The faults. -/
inductive Fault where
  /-- The decode error under the policy `Abort` (R340, R341), raised by the step that fetched an unmapped primary byte.
  `after` is the state the core is left in, which the caller can read: `pc` past that byte, nothing else changed. Safe:
  it is the spec's own stop and no next state. -/
  | unimplementedOpcode (error : DecodeError) (after : State)
  /-- The decode error under the policy `Report` (R341): the caller also records `pc -_16 1`, the address of the offending
  byte, and stops. Safe, as above. -/
  | unimplementedOpcodeReported (error : DecodeError) (address : Word) (after : State)
deriving DecidableEq, Repr

/-- The refusals. -/
inductive Refusal where
  /-- An instruction that has no meaning yet, raised by `exec`'s own arm. Safe. No arm answers it. -/
  | notModelled (mnemonic : String)
  /-- With the parameter `ADMIT_GK` false: one of the sixteen instructions the source never names (R105: "a model
  additionally refuses, by name"), raised by its meaning. Safe. The default is to run them. -/
  | generalKnowledge (mnemonic : String)
deriving DecidableEq, Repr

/-- The machine right after reset (R34, R371): `pc` 0, Primary mode, `IME` true, Running, F[3:0] zero as the spec states.
The spec leaves A, B, C, D, E, H, L, F[7:4] and `sp` unspecified (`RESET_REGS`); they are zero here (DESIGN CHOICE, log entry
1), and `State.init` takes any other draw. Memory lists nothing and the parameters are the defaults of R4. -/
def State.reset : State :=
  { a := 0#8, f := 0#8, b := 0#8, c := 0#8, d := 0#8, e := 0#8, h := 0#8, l := 0#8
    pc := 0#16, sp := 0#16, mode := .primary, ime := true, run := .running
    mem := [], bus := [], busReads := 0, params := Params.standard }

end Sys2Proof.Machine
end

