-- ==== Sys2Proof/Machine/Flags.lean ====
section
/-! DEFINITION. The four flags (R24) and every computation of a result with its flags: R131 to R138, R164 to R171, R181,
R184, R190 to R198, R221. All are total functions of bytes, words and the old flags. -/

namespace Sys2Proof.Machine

/-- The four flags (R24). -/
structure Flags where
  z : Bool
  n : Bool
  h : Bool
  c : Bool
deriving DecidableEq, Repr

/-- `F = (Z << 7) | (N << 6) | (H << 5) | (Cflag << 4)` (R24). -/
def Flags.toByte (x : Flags) : Byte :=
  (if x.z then 0x80#8 else 0#8) ||| (if x.n then 0x40#8 else 0#8) ||| (if x.h then 0x20#8 else 0#8) |||
    (if x.c then 0x10#8 else 0#8)

/-- The flags held in a byte of F (R24). -/
def Flags.ofByte (f : Byte) : Flags :=
  { z := f.getLsbD 7, n := f.getLsbD 6, h := f.getLsbD 5, c := f.getLsbD 4 }

/-- A Boolean used as a number (R6). -/
def carryIn (cin : Bool) : Nat := if cin then 1 else 0

/-- A natural number reduced modulo 256 (R6). -/
def byteOf (x : Nat) : Byte := BitVec.ofNat 8 x

/-! ## 8-bit arithmetic and logic -/

/-- `adc8(a, v, cin)` (R132). -/
def adc8 (a v : Byte) (cin : Bool) : Byte × Flags :=
  let sum := a.toNat + v.toNat + carryIn cin
  let res := byteOf sum
  (res, { z := res == 0#8
          n := false
          h := decide (0x0F < a.toNat % 16 + v.toNat % 16 + carryIn cin)
          c := decide (0xFF < sum) })

/-- `add8(a, v)` (R131): no incoming carry. -/
def add8 (a v : Byte) : Byte × Flags := adc8 a v false

/-- `sbc8(a, v, cin)` (R134). -/
def sbc8 (a v : Byte) (cin : Bool) : Byte × Flags :=
  let res := a - v - byteOf (carryIn cin)
  (res, { z := res == 0#8
          n := true
          h := decide (a.toNat % 16 < v.toNat % 16 + carryIn cin)
          c := decide (a.toNat < v.toNat + carryIn cin) })

/-- `sub8(a, v)` (R133): no incoming carry. -/
def sub8 (a v : Byte) : Byte × Flags := sbc8 a v false

/-- `and8(a, v)` (R135). -/
def and8 (a v : Byte) : Byte × Flags :=
  (a &&& v, { z := (a &&& v) == 0#8, n := false, h := true, c := false })

/-- `xor8(a, v)` (R136). -/
def xor8 (a v : Byte) : Byte × Flags :=
  (a ^^^ v, { z := (a ^^^ v) == 0#8, n := false, h := false, c := false })

/-- `or8(a, v)` (R137). -/
def or8 (a v : Byte) : Byte × Flags :=
  (a ||| v, { z := (a ||| v) == 0#8, n := false, h := false, c := false })

/-- `cp8(a, v)` (R138): the flags of `sub8`, and A as it was. -/
def cp8 (a v : Byte) : Byte × Flags := (a, (sub8 a v).2)

/-- The accumulator operation `op` on A and the operand `v` (R130): what A holds after it, and the flags. -/
def aluResult (op : AluOp) (a v : Byte) (cin : Bool) : Byte × Flags :=
  match op with
  | .add => add8 a v
  | .adc => adc8 a v cin
  | .sub => sub8 a v
  | .sbc => sbc8 a v cin
  | .and => and8 a v
  | .xor => xor8 a v
  | .or => or8 a v
  | .cp => cp8 a v

/-- The 8-bit INC (R164): flag C keeps its old value. -/
def inc8 (v : Byte) (old : Flags) : Byte × Flags :=
  (v + 1#8, { z := v + 1#8 == 0#8, n := false, h := decide (v.toNat % 16 = 0x0F), c := old.c })

/-- The 8-bit DEC (R166): flag C keeps its old value. -/
def dec8 (v : Byte) (old : Flags) : Byte × Flags :=
  (v - 1#8, { z := v - 1#8 == 0#8, n := true, h := decide (v.toNat % 16 = 0), c := old.c })

/-- The low digit of DAA's adjustment (R168). -/
def daaLow (a : Byte) (old : Flags) : Bool := old.h || (!old.n && decide (0x09 < a.toNat % 16))

/-- The high digit of DAA's adjustment (R168). -/
def daaHigh (a : Byte) (old : Flags) : Bool := old.c || (!old.n && decide (0x99 < a.toNat))

/-- DAA (R168). The carry after it is the old one or that an addition needed the 0x60 adjustment. -/
def daa8 (a : Byte) (old : Flags) : Byte × Flags :=
  let adj : Byte := (if daaLow a old then 0x06#8 else 0#8) ||| (if daaHigh a old then 0x60#8 else 0#8)
  let res := if old.n then a - adj else a + adj
  (res, { z := res == 0#8, n := old.n, h := false, c := daaHigh a old })

/-- CPL (R169). -/
def cpl8 (a : Byte) (old : Flags) : Byte × Flags := (~~~a, { old with n := true, h := true })

/-- The flags after SCF (R170). -/
def scfFlags (old : Flags) : Flags := { old with n := false, h := false, c := true }

/-- The flags after CCF (R171). -/
def ccfFlags (old : Flags) : Flags := { old with n := false, h := false, c := !old.c }

/-! ## 16-bit arithmetic -/

/-- `ADD HL,rr` (R181). With `HW_FLAG_COMPAT` the flag Z keeps its old value, else it is assigned from the result. -/
def add16 (compat : Bool) (a v : Word) (old : Flags) : Word × Flags :=
  let sum := a.toNat + v.toNat
  let res : Word := BitVec.ofNat 16 sum
  (res, { z := if compat then old.z else res == 0#16
          n := false
          h := decide (0x0FFF < a.toNat % 0x1000 + v.toNat % 0x1000)
          c := decide (0xFFFF < sum) })

/-- `sext_16(b)` (R7). -/
def sext16 (b : Byte) : Word := if b.getLsbD 7 then wordOf 0xFF#8 b else wordOf 0#8 b

/-- `sp` plus a signed byte, as `ADD SP,e` (R184) and `LD HL,SP+e` (R273) compute it: the flags H and C are those of the
unsigned addition of the two low bytes. -/
def addSigned (a : Word) (lo : Byte) : Word × Flags :=
  (a + sext16 lo, { z := false
                    n := false
                    h := decide (0x0F < a.toNat % 16 + lo.toNat % 16)
                    c := decide (0xFF < a.toNat % 256 + lo.toNat) })

/-! ## Rotates, shifts, bit test -/

/-- The eight functions of R190 to R197: the result, and what flag C becomes. -/
def rotate (op : RotOp) (v : Byte) (cin : Bool) : Byte × Bool :=
  match op with
  | .rlc => ((v <<< 1) ||| (v >>> 7), v.getLsbD 7)
  | .rrc => ((v >>> 1) ||| (v <<< 7), v.getLsbD 0)
  | .rl => ((v <<< 1) ||| byteOf (carryIn cin), v.getLsbD 7)
  | .rr => ((v >>> 1) ||| (byteOf (carryIn cin) <<< 7), v.getLsbD 0)
  | .sla => (v <<< 1, v.getLsbD 7)
  | .sra => ((v >>> 1) ||| (v &&& 0x80#8), v.getLsbD 0)
  | .swap => ((v <<< 4) ||| (v >>> 4), false)
  | .srl => (v >>> 1, v.getLsbD 0)

/-- A rotate or shift of the extended table with its flags (R198): Z from the result, N and H false. -/
def rotate8 (op : RotOp) (v : Byte) (cin : Bool) : Byte × Flags :=
  let r := rotate op v cin
  (r.1, { z := r.1 == 0#8, n := false, h := false, c := r.2 })

/-- A rotate of A from the primary table (R198): under `HW_FLAG_COMPAT` flag Z is false instead. -/
def rotateA8 (compat : Bool) (op : RotOp) (v : Byte) (cin : Bool) : Byte × Flags :=
  let r := rotate op v cin
  (r.1, { z := !compat && r.1 == 0#8, n := false, h := false, c := r.2 })

/-- The bit number a `BitNo` names (R220). -/
def bitIndex : BitNo → Nat
  | .b0 => 0 | .b1 => 1 | .b2 => 2 | .b3 => 3 | .b4 => 4 | .b5 => 5 | .b6 => 6 | .b7 => 7

/-- `1 << b` as a byte (R223, R225). -/
def bitMask (n : BitNo) : Byte := 1#8 <<< bitIndex n

/-- The flags after BIT (R221): Z is true when the tested bit is 0; flag C keeps its old value. -/
def bitFlags (n : BitNo) (v : Byte) (old : Flags) : Flags :=
  { z := !v.getLsbD (bitIndex n), n := false, h := true, c := old.c }

/-- SET (R223). -/
def setBit8 (n : BitNo) (v : Byte) : Byte := v ||| bitMask n

/-- RES (R225). -/
def resBit8 (n : BitNo) (v : Byte) : Byte := v &&& ~~~bitMask n

end Sys2Proof.Machine
end

