-- ==== Sys2Proof/Machine/Ops.lean ====
section
/-! DEFINITION. The operations every meaning is written over: the memory interface (R61), registers and pairs (R20 to R22),
flags (R24, R25), fetching a byte (R106), the stack primitives (R290 to R293), and the one exception of the core, the
decode error (R340, R341). There is no return from it (R343); RETI, the return from an interrupt handler, is `ret` and the
gate (R305), in Control.lean. -/

namespace Sys2Proof.Machine

/-- What an instruction's meaning answers. -/
abbrev Result := Host.Outcome State Fault Refusal

/-! ## Memory contents -/

/-- What a memory cell that nothing has written reads as (DESIGN CHOICE, log entry 2). -/
def unlistedByte : Byte := 0#8

/-- The byte at an address. -/
def Memory.read (m : Memory) (k : Nat) : Byte :=
  match m with
  | [] => unlistedByte
  | (a, v) :: rest => if a = k then v else Memory.read rest k

/-- Memory with an entry put in front of a list, unless the byte is what an unlisted address reads as. -/
def Memory.entry (k : Nat) (v : Byte) (m : Memory) : Memory := if v = unlistedByte then m else (k, v) :: m

/-- Memory with one byte written. Keeps the canonical form (`Memory.wf`). -/
def Memory.write (m : Memory) (k : Nat) (v : Byte) : Memory :=
  match m with
  | [] => Memory.entry k v []
  | (a, w) :: rest =>
    if k < a then Memory.entry k v ((a, w) :: rest)
    else if k = a then Memory.entry k v rest
    else (a, w) :: Memory.write rest k v

/-- The canonical form: addresses strictly rising and below 65536 (R60), no entry equal to what an unlisted address reads
as. -/
abbrev Memory.wf (m : Memory) : Prop :=
  m.Pairwise (fun x y => x.1 < y.1) ∧ ∀ x ∈ m, x.1 < 65536 ∧ x.2 ≠ unlistedByte

/-- The byte memory holds at an address. -/
def State.byteAt (s : State) (a : Word) : Byte := s.mem.read a.toNat

/-! ## The memory interface -/

/-- The byte that a `read(a)` would return if it came after `k` other reads and no write (R61): the byte held there when
memory is plain RAM, any byte when it is an oracle. -/
def State.upcoming (s : State) (k : Nat) (a : Word) : Byte :=
  match s.params.memory with
  | .ram => s.byteAt a
  | .oracle => Config.oracleByte (s.busReads + k)

/-- The state after one call `read(a)`. -/
def State.afterRead (s : State) (a : Word) : State :=
  { s with
    bus := s.bus ++ [.read a (s.upcoming 0 a)]
    busReads := match s.params.memory with
      | .ram => s.busReads
      | .oracle => s.busReads + 1 }

/-- `MemRead(a, 1)` (R9): one call of `read`, its byte and the state after it. -/
def State.memRead (s : State) (a : Word) : Byte × State := (s.upcoming 0 a, s.afterRead a)

/-- `MemWrite(a, 1, v)` (R9): one call of `write`. -/
def State.memWrite (s : State) (a : Word) (v : Byte) : State :=
  { s with mem := s.mem.write a.toNat v, bus := s.bus ++ [.write a v] }

/-! ## Registers, pairs, flags -/

/-- `r8[i]` (R8, R93). -/
def State.reg (s : State) (r : Reg8) : Byte :=
  match r with
  | .b => s.b
  | .c => s.c
  | .d => s.d
  | .e => s.e
  | .h => s.h
  | .l => s.l
  | .a => s.a

/-- `r8[i] <- v`. -/
def State.setReg (s : State) (r : Reg8) (v : Byte) : State :=
  match r with
  | .b => { s with b := v }
  | .c => { s with c := v }
  | .d => { s with d := v }
  | .e => { s with e := v }
  | .h => { s with h := v }
  | .l => { s with l := v }
  | .a => { s with a := v }

/-- `r16[i]` (R22, R94): the high register in bits 15..8. -/
def State.pair (s : State) (p : Pair) : Word :=
  match p with
  | .bc => wordOf s.b s.c
  | .de => wordOf s.d s.e
  | .hl => wordOf s.h s.l
  | .sp => s.sp

/-- `r16[i] <- w`: both halves at once (R22). -/
def State.setPair (s : State) (p : Pair) (w : Word) : State :=
  match p with
  | .bc => { s with b := hiByte w, c := loByte w }
  | .de => { s with d := hiByte w, e := loByte w }
  | .hl => { s with h := hiByte w, l := loByte w }
  | .sp => { s with sp := w }

/-- `r16s[i]` (R94): as `r16`, with AF for SP. -/
def State.stackPair (s : State) (q : StackPair) : Word :=
  match q with
  | .bc => s.pair .bc
  | .de => s.pair .de
  | .hl => s.pair .hl
  | .af => wordOf s.a s.f

/-- `r16s[i] <- w`. A write to AF stores `F <- w[7:0] & 0xF0` (R22, R23). -/
def State.setStackPair (s : State) (q : StackPair) (w : Word) : State :=
  match q with
  | .bc => s.setPair .bc w
  | .de => s.setPair .de w
  | .hl => s.setPair .hl w
  | .af => { s with a := hiByte w, f := loByte w &&& 0xF0#8 }

/-- HL, the address of every `(HL)` form. -/
abbrev State.hl (s : State) : Word := s.pair .hl

/-- The flags (R24). -/
def State.flags (s : State) : Flags := Flags.ofByte s.f

/-- Assigns the four flags; F[3:0] becomes 0 (R23, R25). -/
def State.setFlags (s : State) (x : Flags) : State := { s with f := x.toByte }

/-- Sets the program counter. -/
def State.jump (s : State) (target : Word) : State := { s with pc := target }

/-! ## Fetching a byte -/

/-- `fetch8()` (R106): the byte at `pc`, and `pc` one further. -/
def State.fetch8 (s : State) : Byte × State :=
  let r := s.memRead s.pc
  (r.1, r.2.jump (s.pc + 1#16))

/-! ## The stack -/

/-- `push8(v)` (R290). -/
def State.push8 (s : State) (v : Byte) : State :=
  State.memWrite { s with sp := s.sp - 1#16 } (s.sp - 1#16) v

/-- `push16(w)` (R291): the high byte, then the low byte. -/
def State.push16 (s : State) (w : Word) : State := (s.push8 (hiByte w)).push8 (loByte w)

/-- `pop8()` (R292). -/
def State.pop8 (s : State) : Byte × State :=
  let r := s.memRead s.sp
  (r.1, { r.2 with sp := s.sp + 1#16 })

/-- `pop16()` (R293): the low byte, then the high byte. -/
def State.pop16 (s : State) : Word × State :=
  let lo := s.pop8
  let hi := lo.2.pop8
  (wordOf hi.1 lo.1, hi.2)

/-! ## The decode error, and instructions a parameter excludes -/

/-- `raise UnimplementedOpcode(op, mode)` and what the caller does with it (R340, R341), in the state after the opcode fetch:
`Abort` and `Report` end the run in a fault; under `Skip` the unmapped byte "has acted as a one-byte no-op". -/
def raiseUnimplemented (op : Byte) (s : State) : Result :=
  match s.params.unimplPolicy with
  | .abort => .fault (.unimplementedOpcode { byte := op, mode := s.mode } s)
  | .report => .fault (.unimplementedOpcodeReported { byte := op, mode := s.mode } (s.pc - 1#16) s)
  | .skip => .next s

/-- The effect of an instruction the source never names: run by its general-knowledge rule, or refused by name when
`ADMIT_GK` is false (R105). -/
def admitGK (mnemonic : String) (s t : State) : Result :=
  if s.params.admitGK then .next t else .refused (.generalKnowledge mnemonic)

end Sys2Proof.Machine
end

