-- ==== Sys2Proof/Machine/Operands.lean ====
section
/-! DEFINITION. The operand forms: a register or the byte at HL (R93), the source of an accumulator operation (R130), the
high page (R240 to R243), the conditions (R297). -/

namespace Sys2Proof.Machine

/-- Reads what a 3-bit register code selects (R93): a register, or one `MemRead(HL, 1)`. -/
def State.readLoc (s : State) (x : Loc8) : Byte × State :=
  match x with
  | .reg r => (s.reg r, s)
  | .atHL => s.memRead s.hl

/-- Writes what a 3-bit register code selects (R93): a register, or one `MemWrite(HL, 1, v)`. -/
def State.writeLoc (s : State) (x : Loc8) (v : Byte) : State :=
  match x with
  | .reg r => s.setReg r v
  | .atHL => s.memWrite s.hl v

/-- Reads the source operand of an accumulator operation (R130). -/
def State.readSrc (s : State) (x : Src8) : Byte × State :=
  match x with
  | .loc y => s.readLoc y
  | .imm n => (n, s)

/-- `0xFF00 + offset` (R240): the offset is zero-extended, so the address stays in the high page (R66). -/
def highPage (offset : Byte) : Word := 0xFF00#16 + offset.setWidth 16

/-- `cond(cc)` (R297): each tests exactly one flag. -/
def State.holds (s : State) (cc : Cond) : Bool :=
  match cc with
  | .nz => !s.flags.z
  | .z => s.flags.z
  | .nc => !s.flags.c
  | .c => s.flags.c

/-- The target of `RST` (R98, R307), zero-extended. -/
def rstTarget (t : RstVec) : Word :=
  match t with
  | .v00 => 0x0000#16
  | .v08 => 0x0008#16
  | .v10 => 0x0010#16
  | .v18 => 0x0018#16
  | .v20 => 0x0020#16
  | .v28 => 0x0028#16
  | .v30 => 0x0030#16
  | .v38 => 0x0038#16

end Sys2Proof.Machine
end

