-- ==== Sys2Proof/Machine/Alu16.lean ====
section
/-! DEFINITION. 16-bit arithmetic (41_alu16.md). -/

namespace Sys2Proof.Machine

/-- `ADD HL,rr` (R181). -/
def State.addHL (s : State) (p : Pair) : State :=
  let out := add16 s.params.hwFlagCompat s.hl (s.pair p) s.flags
  (s.setPair .hl out.1).setFlags out.2

/-- `INC rr` (R182): no flag changes. -/
def State.incPair (s : State) (p : Pair) : State := s.setPair p (s.pair p + 1#16)

/-- `DEC rr` (R183): no flag changes. -/
def State.decPair (s : State) (p : Pair) : State := s.setPair p (s.pair p - 1#16)

/-- `ADD SP,e` (R184). -/
def State.addSP (s : State) (e : Byte) : State :=
  let out := addSigned s.sp e
  (s.setPair .sp out.1).setFlags out.2

/-- `ADD HL,BC` (R181). -/
def execAdd_HL_BC (s : State) : Result := .next (s.addHL .bc)

/-- `ADD HL,DE` (R181). -/
def execAdd_HL_DE (s : State) : Result := .next (s.addHL .de)

/-- `ADD HL,HL` (R181). -/
def execAdd_HL_HL (s : State) : Result := .next (s.addHL .hl)

/-- `ADD HL,SP` (R181). -/
def execAdd_HL_SP (s : State) : Result := .next (s.addHL .sp)

/-- `INC BC` (R182, R105). -/
def execInc_BC (s : State) : Result := admitGK "INC_BC" s (s.incPair .bc)

/-- `INC DE` (R182, R105). -/
def execInc_DE (s : State) : Result := admitGK "INC_DE" s (s.incPair .de)

/-- `INC HL` (R182, R105). -/
def execInc_HL (s : State) : Result := admitGK "INC_HL" s (s.incPair .hl)

/-- `INC SP` (R182, R105). -/
def execInc_SP (s : State) : Result := admitGK "INC_SP" s (s.incPair .sp)

/-- `DEC BC` (R183, R105). -/
def execDec_BC (s : State) : Result := admitGK "DEC_BC" s (s.decPair .bc)

/-- `DEC DE` (R183, R105). -/
def execDec_DE (s : State) : Result := admitGK "DEC_DE" s (s.decPair .de)

/-- `DEC HL` (R183, R105). -/
def execDec_HL (s : State) : Result := admitGK "DEC_HL" s (s.decPair .hl)

/-- `DEC SP` (R183, R105). -/
def execDec_SP (s : State) : Result := admitGK "DEC_SP" s (s.decPair .sp)

/-- `ADD SP,e` (R184, R105). -/
def execAdd_SP_e (e : Byte) (s : State) : Result := admitGK "ADD_SP_e" s (s.addSP e)

end Sys2Proof.Machine
end

