-- ==== Sys2Proof/Machine/Alu8.lean ====
section
/-! DEFINITION. 8-bit arithmetic and logic (40_alu8.md): the accumulator operations, INC and DEC, DAA, CPL, SCF, CCF. -/

namespace Sys2Proof.Machine

/-- An accumulator operation (R130, R139): A and the operand give A and all four flags. CP gives A back as it was (R138). -/
def State.aluA (s : State) (op : AluOp) (x : Src8) : State :=
  let r := s.readSrc x
  let out := aluResult op s.a r.1 s.flags.c
  (r.2.setReg .a out.1).setFlags out.2

/-- INC of a register (R164), or of the byte at HL (R165): one read, then one write. -/
def State.incLoc (s : State) (x : Loc8) : State :=
  let r := s.readLoc x
  let out := inc8 r.1 s.flags
  (r.2.writeLoc x out.1).setFlags out.2

/-- DEC of a register (R166), or of the byte at HL (R167). -/
def State.decLoc (s : State) (x : Loc8) : State :=
  let r := s.readLoc x
  let out := dec8 r.1 s.flags
  (r.2.writeLoc x out.1).setFlags out.2

/-- DAA (R168). -/
def State.daa (s : State) : State :=
  let out := daa8 s.a s.flags
  (s.setReg .a out.1).setFlags out.2

/-- CPL (R169). -/
def State.cpl (s : State) : State :=
  let out := cpl8 s.a s.flags
  (s.setReg .a out.1).setFlags out.2

/-- SCF (R170). -/
def State.scf (s : State) : State := s.setFlags (scfFlags s.flags)

/-- CCF (R171). -/
def State.ccf (s : State) : State := s.setFlags (ccfFlags s.flags)

/-- `ADD A,B` (R140). -/
def execAdd_A_B (s : State) : Result := .next (s.aluA .add (.loc (.reg .b)))

/-- `ADD A,C` (R140). -/
def execAdd_A_C (s : State) : Result := .next (s.aluA .add (.loc (.reg .c)))

/-- `ADD A,D` (R140). -/
def execAdd_A_D (s : State) : Result := .next (s.aluA .add (.loc (.reg .d)))

/-- `ADD A,E` (R140). -/
def execAdd_A_E (s : State) : Result := .next (s.aluA .add (.loc (.reg .e)))

/-- `ADD A,H` (R140). -/
def execAdd_A_H (s : State) : Result := .next (s.aluA .add (.loc (.reg .h)))

/-- `ADD A,L` (R140). -/
def execAdd_A_L (s : State) : Result := .next (s.aluA .add (.loc (.reg .l)))

/-- `ADD A,A` (R140). -/
def execAdd_A_A (s : State) : Result := .next (s.aluA .add (.loc (.reg .a)))

/-- `ADD A,(HL)` (R141). -/
def execAdd_A_atHL (s : State) : Result := .next (s.aluA .add (.loc .atHL))

/-- `ADD A,n` (R142). -/
def execAdd_A_n (n : Byte) (s : State) : Result := .next (s.aluA .add (.imm n))

/-- `ADC A,B` (R143). -/
def execAdc_A_B (s : State) : Result := .next (s.aluA .adc (.loc (.reg .b)))

/-- `ADC A,C` (R143). -/
def execAdc_A_C (s : State) : Result := .next (s.aluA .adc (.loc (.reg .c)))

/-- `ADC A,D` (R143). -/
def execAdc_A_D (s : State) : Result := .next (s.aluA .adc (.loc (.reg .d)))

/-- `ADC A,E` (R143). -/
def execAdc_A_E (s : State) : Result := .next (s.aluA .adc (.loc (.reg .e)))

/-- `ADC A,H` (R143). -/
def execAdc_A_H (s : State) : Result := .next (s.aluA .adc (.loc (.reg .h)))

/-- `ADC A,L` (R143). -/
def execAdc_A_L (s : State) : Result := .next (s.aluA .adc (.loc (.reg .l)))

/-- `ADC A,A` (R143). -/
def execAdc_A_A (s : State) : Result := .next (s.aluA .adc (.loc (.reg .a)))

/-- `ADC A,(HL)` (R144). -/
def execAdc_A_atHL (s : State) : Result := .next (s.aluA .adc (.loc .atHL))

/-- `ADC A,n` (R145). -/
def execAdc_A_n (n : Byte) (s : State) : Result := .next (s.aluA .adc (.imm n))

/-- `SUB B` (R146). -/
def execSub_B (s : State) : Result := .next (s.aluA .sub (.loc (.reg .b)))

/-- `SUB C` (R146). -/
def execSub_C (s : State) : Result := .next (s.aluA .sub (.loc (.reg .c)))

/-- `SUB D` (R146). -/
def execSub_D (s : State) : Result := .next (s.aluA .sub (.loc (.reg .d)))

/-- `SUB E` (R146). -/
def execSub_E (s : State) : Result := .next (s.aluA .sub (.loc (.reg .e)))

/-- `SUB H` (R146). -/
def execSub_H (s : State) : Result := .next (s.aluA .sub (.loc (.reg .h)))

/-- `SUB L` (R146). -/
def execSub_L (s : State) : Result := .next (s.aluA .sub (.loc (.reg .l)))

/-- `SUB A` (R146). -/
def execSub_A (s : State) : Result := .next (s.aluA .sub (.loc (.reg .a)))

/-- `SUB (HL)` (R147). -/
def execSub_atHL (s : State) : Result := .next (s.aluA .sub (.loc .atHL))

/-- `SUB n` (R148). -/
def execSub_n (n : Byte) (s : State) : Result := .next (s.aluA .sub (.imm n))

/-- `SBC A,B` (R149). -/
def execSbc_A_B (s : State) : Result := .next (s.aluA .sbc (.loc (.reg .b)))

/-- `SBC A,C` (R149). -/
def execSbc_A_C (s : State) : Result := .next (s.aluA .sbc (.loc (.reg .c)))

/-- `SBC A,D` (R149). -/
def execSbc_A_D (s : State) : Result := .next (s.aluA .sbc (.loc (.reg .d)))

/-- `SBC A,E` (R149). -/
def execSbc_A_E (s : State) : Result := .next (s.aluA .sbc (.loc (.reg .e)))

/-- `SBC A,H` (R149). -/
def execSbc_A_H (s : State) : Result := .next (s.aluA .sbc (.loc (.reg .h)))

/-- `SBC A,L` (R149). -/
def execSbc_A_L (s : State) : Result := .next (s.aluA .sbc (.loc (.reg .l)))

/-- `SBC A,A` (R149). -/
def execSbc_A_A (s : State) : Result := .next (s.aluA .sbc (.loc (.reg .a)))

/-- `SBC A,(HL)` (R150). -/
def execSbc_A_atHL (s : State) : Result := .next (s.aluA .sbc (.loc .atHL))

/-- `SBC A,n` (R151). -/
def execSbc_A_n (n : Byte) (s : State) : Result := .next (s.aluA .sbc (.imm n))

/-- `AND B` (R152). -/
def execAnd_B (s : State) : Result := .next (s.aluA .and (.loc (.reg .b)))

/-- `AND C` (R152). -/
def execAnd_C (s : State) : Result := .next (s.aluA .and (.loc (.reg .c)))

/-- `AND D` (R152). -/
def execAnd_D (s : State) : Result := .next (s.aluA .and (.loc (.reg .d)))

/-- `AND E` (R152). -/
def execAnd_E (s : State) : Result := .next (s.aluA .and (.loc (.reg .e)))

/-- `AND H` (R152). -/
def execAnd_H (s : State) : Result := .next (s.aluA .and (.loc (.reg .h)))

/-- `AND L` (R152). -/
def execAnd_L (s : State) : Result := .next (s.aluA .and (.loc (.reg .l)))

/-- `AND A` (R152). -/
def execAnd_A (s : State) : Result := .next (s.aluA .and (.loc (.reg .a)))

/-- `AND (HL)` (R153). -/
def execAnd_atHL (s : State) : Result := .next (s.aluA .and (.loc .atHL))

/-- `AND n` (R154). -/
def execAnd_n (n : Byte) (s : State) : Result := .next (s.aluA .and (.imm n))

/-- `XOR B` (R155). -/
def execXor_B (s : State) : Result := .next (s.aluA .xor (.loc (.reg .b)))

/-- `XOR C` (R155). -/
def execXor_C (s : State) : Result := .next (s.aluA .xor (.loc (.reg .c)))

/-- `XOR D` (R155). -/
def execXor_D (s : State) : Result := .next (s.aluA .xor (.loc (.reg .d)))

/-- `XOR E` (R155). -/
def execXor_E (s : State) : Result := .next (s.aluA .xor (.loc (.reg .e)))

/-- `XOR H` (R155). -/
def execXor_H (s : State) : Result := .next (s.aluA .xor (.loc (.reg .h)))

/-- `XOR L` (R155). -/
def execXor_L (s : State) : Result := .next (s.aluA .xor (.loc (.reg .l)))

/-- `XOR A` (R155). -/
def execXor_A (s : State) : Result := .next (s.aluA .xor (.loc (.reg .a)))

/-- `XOR (HL)` (R156). -/
def execXor_atHL (s : State) : Result := .next (s.aluA .xor (.loc .atHL))

/-- `XOR n` (R157). -/
def execXor_n (n : Byte) (s : State) : Result := .next (s.aluA .xor (.imm n))

/-- `OR B` (R158). -/
def execOr_B (s : State) : Result := .next (s.aluA .or (.loc (.reg .b)))

/-- `OR C` (R158). -/
def execOr_C (s : State) : Result := .next (s.aluA .or (.loc (.reg .c)))

/-- `OR D` (R158). -/
def execOr_D (s : State) : Result := .next (s.aluA .or (.loc (.reg .d)))

/-- `OR E` (R158). -/
def execOr_E (s : State) : Result := .next (s.aluA .or (.loc (.reg .e)))

/-- `OR H` (R158). -/
def execOr_H (s : State) : Result := .next (s.aluA .or (.loc (.reg .h)))

/-- `OR L` (R158). -/
def execOr_L (s : State) : Result := .next (s.aluA .or (.loc (.reg .l)))

/-- `OR A` (R158). -/
def execOr_A (s : State) : Result := .next (s.aluA .or (.loc (.reg .a)))

/-- `OR (HL)` (R159). -/
def execOr_atHL (s : State) : Result := .next (s.aluA .or (.loc .atHL))

/-- `OR n` (R160). -/
def execOr_n (n : Byte) (s : State) : Result := .next (s.aluA .or (.imm n))

/-- `CP B` (R161). -/
def execCp_B (s : State) : Result := .next (s.aluA .cp (.loc (.reg .b)))

/-- `CP C` (R161). -/
def execCp_C (s : State) : Result := .next (s.aluA .cp (.loc (.reg .c)))

/-- `CP D` (R161). -/
def execCp_D (s : State) : Result := .next (s.aluA .cp (.loc (.reg .d)))

/-- `CP E` (R161). -/
def execCp_E (s : State) : Result := .next (s.aluA .cp (.loc (.reg .e)))

/-- `CP H` (R161). -/
def execCp_H (s : State) : Result := .next (s.aluA .cp (.loc (.reg .h)))

/-- `CP L` (R161). -/
def execCp_L (s : State) : Result := .next (s.aluA .cp (.loc (.reg .l)))

/-- `CP A` (R161). -/
def execCp_A (s : State) : Result := .next (s.aluA .cp (.loc (.reg .a)))

/-- `CP (HL)` (R162). -/
def execCp_atHL (s : State) : Result := .next (s.aluA .cp (.loc .atHL))

/-- `CP n` (R163). -/
def execCp_n (n : Byte) (s : State) : Result := .next (s.aluA .cp (.imm n))

/-- `INC B` (R164). -/
def execInc_B (s : State) : Result := .next (s.incLoc (.reg .b))

/-- `INC C` (R164). -/
def execInc_C (s : State) : Result := .next (s.incLoc (.reg .c))

/-- `INC D` (R164). -/
def execInc_D (s : State) : Result := .next (s.incLoc (.reg .d))

/-- `INC E` (R164). -/
def execInc_E (s : State) : Result := .next (s.incLoc (.reg .e))

/-- `INC H` (R164). -/
def execInc_H (s : State) : Result := .next (s.incLoc (.reg .h))

/-- `INC L` (R164). -/
def execInc_L (s : State) : Result := .next (s.incLoc (.reg .l))

/-- `INC A` (R164). -/
def execInc_A (s : State) : Result := .next (s.incLoc (.reg .a))

/-- `INC (HL)` (R165). -/
def execInc_atHL (s : State) : Result := .next (s.incLoc .atHL)

/-- `DEC B` (R166). -/
def execDec_B (s : State) : Result := .next (s.decLoc (.reg .b))

/-- `DEC C` (R166). -/
def execDec_C (s : State) : Result := .next (s.decLoc (.reg .c))

/-- `DEC D` (R166). -/
def execDec_D (s : State) : Result := .next (s.decLoc (.reg .d))

/-- `DEC E` (R166). -/
def execDec_E (s : State) : Result := .next (s.decLoc (.reg .e))

/-- `DEC H` (R166). -/
def execDec_H (s : State) : Result := .next (s.decLoc (.reg .h))

/-- `DEC L` (R166). -/
def execDec_L (s : State) : Result := .next (s.decLoc (.reg .l))

/-- `DEC A` (R166). -/
def execDec_A (s : State) : Result := .next (s.decLoc (.reg .a))

/-- `DEC (HL)` (R167). -/
def execDec_atHL (s : State) : Result := .next (s.decLoc .atHL)

/-- `DAA` (R168, R105). -/
def execDaa (s : State) : Result := admitGK "DAA" s (s.daa)

/-- `CPL` (R169, R105). -/
def execCpl (s : State) : Result := admitGK "CPL" s (s.cpl)

/-- `SCF` (R170, R105). -/
def execScf (s : State) : Result := admitGK "SCF" s (s.scf)

/-- `CCF` (R171, R105). -/
def execCcf (s : State) : Result := admitGK "CCF" s (s.ccf)

end Sys2Proof.Machine
end

