-- ==== Sys2Proof/Machine/Bit.lean ====
section
/-! DEFINITION. BIT, SET, RES (43_bit.md). -/

namespace Sys2Proof.Machine

/-- BIT of a register (R221), or of the byte at HL (R222): one read and no write. -/
def State.bitTest (s : State) (n : BitNo) (x : Loc8) : State :=
  let r := s.readLoc x
  r.2.setFlags (bitFlags n r.1 s.flags)

/-- SET (R223, R224): no flag changes; the byte at HL is written even when the bit was already 1. -/
def State.setBit (s : State) (n : BitNo) (x : Loc8) : State :=
  let r := s.readLoc x
  r.2.writeLoc x (setBit8 n r.1)

/-- RES (R225, R226): no flag changes; the byte at HL is written even when the bit was already 0. -/
def State.resBit (s : State) (n : BitNo) (x : Loc8) : State :=
  let r := s.readLoc x
  r.2.writeLoc x (resBit8 n r.1)

/-- `BIT 0,B` (R221). -/
def execBit_0_B (s : State) : Result := .next (s.bitTest .b0 (.reg .b))

/-- `BIT 0,C` (R221). -/
def execBit_0_C (s : State) : Result := .next (s.bitTest .b0 (.reg .c))

/-- `BIT 0,D` (R221). -/
def execBit_0_D (s : State) : Result := .next (s.bitTest .b0 (.reg .d))

/-- `BIT 0,E` (R221). -/
def execBit_0_E (s : State) : Result := .next (s.bitTest .b0 (.reg .e))

/-- `BIT 0,H` (R221). -/
def execBit_0_H (s : State) : Result := .next (s.bitTest .b0 (.reg .h))

/-- `BIT 0,L` (R221). -/
def execBit_0_L (s : State) : Result := .next (s.bitTest .b0 (.reg .l))

/-- `BIT 0,A` (R221). -/
def execBit_0_A (s : State) : Result := .next (s.bitTest .b0 (.reg .a))

/-- `BIT 1,B` (R221). -/
def execBit_1_B (s : State) : Result := .next (s.bitTest .b1 (.reg .b))

/-- `BIT 1,C` (R221). -/
def execBit_1_C (s : State) : Result := .next (s.bitTest .b1 (.reg .c))

/-- `BIT 1,D` (R221). -/
def execBit_1_D (s : State) : Result := .next (s.bitTest .b1 (.reg .d))

/-- `BIT 1,E` (R221). -/
def execBit_1_E (s : State) : Result := .next (s.bitTest .b1 (.reg .e))

/-- `BIT 1,H` (R221). -/
def execBit_1_H (s : State) : Result := .next (s.bitTest .b1 (.reg .h))

/-- `BIT 1,L` (R221). -/
def execBit_1_L (s : State) : Result := .next (s.bitTest .b1 (.reg .l))

/-- `BIT 1,A` (R221). -/
def execBit_1_A (s : State) : Result := .next (s.bitTest .b1 (.reg .a))

/-- `BIT 2,B` (R221). -/
def execBit_2_B (s : State) : Result := .next (s.bitTest .b2 (.reg .b))

/-- `BIT 2,C` (R221). -/
def execBit_2_C (s : State) : Result := .next (s.bitTest .b2 (.reg .c))

/-- `BIT 2,D` (R221). -/
def execBit_2_D (s : State) : Result := .next (s.bitTest .b2 (.reg .d))

/-- `BIT 2,E` (R221). -/
def execBit_2_E (s : State) : Result := .next (s.bitTest .b2 (.reg .e))

/-- `BIT 2,H` (R221). -/
def execBit_2_H (s : State) : Result := .next (s.bitTest .b2 (.reg .h))

/-- `BIT 2,L` (R221). -/
def execBit_2_L (s : State) : Result := .next (s.bitTest .b2 (.reg .l))

/-- `BIT 2,A` (R221). -/
def execBit_2_A (s : State) : Result := .next (s.bitTest .b2 (.reg .a))

/-- `BIT 3,B` (R221). -/
def execBit_3_B (s : State) : Result := .next (s.bitTest .b3 (.reg .b))

/-- `BIT 3,C` (R221). -/
def execBit_3_C (s : State) : Result := .next (s.bitTest .b3 (.reg .c))

/-- `BIT 3,D` (R221). -/
def execBit_3_D (s : State) : Result := .next (s.bitTest .b3 (.reg .d))

/-- `BIT 3,E` (R221). -/
def execBit_3_E (s : State) : Result := .next (s.bitTest .b3 (.reg .e))

/-- `BIT 3,H` (R221). -/
def execBit_3_H (s : State) : Result := .next (s.bitTest .b3 (.reg .h))

/-- `BIT 3,L` (R221). -/
def execBit_3_L (s : State) : Result := .next (s.bitTest .b3 (.reg .l))

/-- `BIT 3,A` (R221). -/
def execBit_3_A (s : State) : Result := .next (s.bitTest .b3 (.reg .a))

/-- `BIT 4,B` (R221). -/
def execBit_4_B (s : State) : Result := .next (s.bitTest .b4 (.reg .b))

/-- `BIT 4,C` (R221). -/
def execBit_4_C (s : State) : Result := .next (s.bitTest .b4 (.reg .c))

/-- `BIT 4,D` (R221). -/
def execBit_4_D (s : State) : Result := .next (s.bitTest .b4 (.reg .d))

/-- `BIT 4,E` (R221). -/
def execBit_4_E (s : State) : Result := .next (s.bitTest .b4 (.reg .e))

/-- `BIT 4,H` (R221). -/
def execBit_4_H (s : State) : Result := .next (s.bitTest .b4 (.reg .h))

/-- `BIT 4,L` (R221). -/
def execBit_4_L (s : State) : Result := .next (s.bitTest .b4 (.reg .l))

/-- `BIT 4,A` (R221). -/
def execBit_4_A (s : State) : Result := .next (s.bitTest .b4 (.reg .a))

/-- `BIT 5,B` (R221). -/
def execBit_5_B (s : State) : Result := .next (s.bitTest .b5 (.reg .b))

/-- `BIT 5,C` (R221). -/
def execBit_5_C (s : State) : Result := .next (s.bitTest .b5 (.reg .c))

/-- `BIT 5,D` (R221). -/
def execBit_5_D (s : State) : Result := .next (s.bitTest .b5 (.reg .d))

/-- `BIT 5,E` (R221). -/
def execBit_5_E (s : State) : Result := .next (s.bitTest .b5 (.reg .e))

/-- `BIT 5,H` (R221). -/
def execBit_5_H (s : State) : Result := .next (s.bitTest .b5 (.reg .h))

/-- `BIT 5,L` (R221). -/
def execBit_5_L (s : State) : Result := .next (s.bitTest .b5 (.reg .l))

/-- `BIT 5,A` (R221). -/
def execBit_5_A (s : State) : Result := .next (s.bitTest .b5 (.reg .a))

/-- `BIT 6,B` (R221). -/
def execBit_6_B (s : State) : Result := .next (s.bitTest .b6 (.reg .b))

/-- `BIT 6,C` (R221). -/
def execBit_6_C (s : State) : Result := .next (s.bitTest .b6 (.reg .c))

/-- `BIT 6,D` (R221). -/
def execBit_6_D (s : State) : Result := .next (s.bitTest .b6 (.reg .d))

/-- `BIT 6,E` (R221). -/
def execBit_6_E (s : State) : Result := .next (s.bitTest .b6 (.reg .e))

/-- `BIT 6,H` (R221). -/
def execBit_6_H (s : State) : Result := .next (s.bitTest .b6 (.reg .h))

/-- `BIT 6,L` (R221). -/
def execBit_6_L (s : State) : Result := .next (s.bitTest .b6 (.reg .l))

/-- `BIT 6,A` (R221). -/
def execBit_6_A (s : State) : Result := .next (s.bitTest .b6 (.reg .a))

/-- `BIT 7,B` (R221). -/
def execBit_7_B (s : State) : Result := .next (s.bitTest .b7 (.reg .b))

/-- `BIT 7,C` (R221). -/
def execBit_7_C (s : State) : Result := .next (s.bitTest .b7 (.reg .c))

/-- `BIT 7,D` (R221). -/
def execBit_7_D (s : State) : Result := .next (s.bitTest .b7 (.reg .d))

/-- `BIT 7,E` (R221). -/
def execBit_7_E (s : State) : Result := .next (s.bitTest .b7 (.reg .e))

/-- `BIT 7,H` (R221). -/
def execBit_7_H (s : State) : Result := .next (s.bitTest .b7 (.reg .h))

/-- `BIT 7,L` (R221). -/
def execBit_7_L (s : State) : Result := .next (s.bitTest .b7 (.reg .l))

/-- `BIT 7,A` (R221). -/
def execBit_7_A (s : State) : Result := .next (s.bitTest .b7 (.reg .a))

/-- `BIT 0,(HL)` (R222). -/
def execBit_0_atHL (s : State) : Result := .next (s.bitTest .b0 .atHL)

/-- `BIT 1,(HL)` (R222). -/
def execBit_1_atHL (s : State) : Result := .next (s.bitTest .b1 .atHL)

/-- `BIT 2,(HL)` (R222). -/
def execBit_2_atHL (s : State) : Result := .next (s.bitTest .b2 .atHL)

/-- `BIT 3,(HL)` (R222). -/
def execBit_3_atHL (s : State) : Result := .next (s.bitTest .b3 .atHL)

/-- `BIT 4,(HL)` (R222). -/
def execBit_4_atHL (s : State) : Result := .next (s.bitTest .b4 .atHL)

/-- `BIT 5,(HL)` (R222). -/
def execBit_5_atHL (s : State) : Result := .next (s.bitTest .b5 .atHL)

/-- `BIT 6,(HL)` (R222). -/
def execBit_6_atHL (s : State) : Result := .next (s.bitTest .b6 .atHL)

/-- `BIT 7,(HL)` (R222). -/
def execBit_7_atHL (s : State) : Result := .next (s.bitTest .b7 .atHL)

/-- `SET 0,B` (R223). -/
def execSet_0_B (s : State) : Result := .next (s.setBit .b0 (.reg .b))

/-- `SET 0,C` (R223). -/
def execSet_0_C (s : State) : Result := .next (s.setBit .b0 (.reg .c))

/-- `SET 0,D` (R223). -/
def execSet_0_D (s : State) : Result := .next (s.setBit .b0 (.reg .d))

/-- `SET 0,E` (R223). -/
def execSet_0_E (s : State) : Result := .next (s.setBit .b0 (.reg .e))

/-- `SET 0,H` (R223). -/
def execSet_0_H (s : State) : Result := .next (s.setBit .b0 (.reg .h))

/-- `SET 0,L` (R223). -/
def execSet_0_L (s : State) : Result := .next (s.setBit .b0 (.reg .l))

/-- `SET 0,A` (R223). -/
def execSet_0_A (s : State) : Result := .next (s.setBit .b0 (.reg .a))

/-- `SET 1,B` (R223). -/
def execSet_1_B (s : State) : Result := .next (s.setBit .b1 (.reg .b))

/-- `SET 1,C` (R223). -/
def execSet_1_C (s : State) : Result := .next (s.setBit .b1 (.reg .c))

/-- `SET 1,D` (R223). -/
def execSet_1_D (s : State) : Result := .next (s.setBit .b1 (.reg .d))

/-- `SET 1,E` (R223). -/
def execSet_1_E (s : State) : Result := .next (s.setBit .b1 (.reg .e))

/-- `SET 1,H` (R223). -/
def execSet_1_H (s : State) : Result := .next (s.setBit .b1 (.reg .h))

/-- `SET 1,L` (R223). -/
def execSet_1_L (s : State) : Result := .next (s.setBit .b1 (.reg .l))

/-- `SET 1,A` (R223). -/
def execSet_1_A (s : State) : Result := .next (s.setBit .b1 (.reg .a))

/-- `SET 2,B` (R223). -/
def execSet_2_B (s : State) : Result := .next (s.setBit .b2 (.reg .b))

/-- `SET 2,C` (R223). -/
def execSet_2_C (s : State) : Result := .next (s.setBit .b2 (.reg .c))

/-- `SET 2,D` (R223). -/
def execSet_2_D (s : State) : Result := .next (s.setBit .b2 (.reg .d))

/-- `SET 2,E` (R223). -/
def execSet_2_E (s : State) : Result := .next (s.setBit .b2 (.reg .e))

/-- `SET 2,H` (R223). -/
def execSet_2_H (s : State) : Result := .next (s.setBit .b2 (.reg .h))

/-- `SET 2,L` (R223). -/
def execSet_2_L (s : State) : Result := .next (s.setBit .b2 (.reg .l))

/-- `SET 2,A` (R223). -/
def execSet_2_A (s : State) : Result := .next (s.setBit .b2 (.reg .a))

/-- `SET 3,B` (R223). -/
def execSet_3_B (s : State) : Result := .next (s.setBit .b3 (.reg .b))

/-- `SET 3,C` (R223). -/
def execSet_3_C (s : State) : Result := .next (s.setBit .b3 (.reg .c))

/-- `SET 3,D` (R223). -/
def execSet_3_D (s : State) : Result := .next (s.setBit .b3 (.reg .d))

/-- `SET 3,E` (R223). -/
def execSet_3_E (s : State) : Result := .next (s.setBit .b3 (.reg .e))

/-- `SET 3,H` (R223). -/
def execSet_3_H (s : State) : Result := .next (s.setBit .b3 (.reg .h))

/-- `SET 3,L` (R223). -/
def execSet_3_L (s : State) : Result := .next (s.setBit .b3 (.reg .l))

/-- `SET 3,A` (R223). -/
def execSet_3_A (s : State) : Result := .next (s.setBit .b3 (.reg .a))

/-- `SET 4,B` (R223). -/
def execSet_4_B (s : State) : Result := .next (s.setBit .b4 (.reg .b))

/-- `SET 4,C` (R223). -/
def execSet_4_C (s : State) : Result := .next (s.setBit .b4 (.reg .c))

/-- `SET 4,D` (R223). -/
def execSet_4_D (s : State) : Result := .next (s.setBit .b4 (.reg .d))

/-- `SET 4,E` (R223). -/
def execSet_4_E (s : State) : Result := .next (s.setBit .b4 (.reg .e))

/-- `SET 4,H` (R223). -/
def execSet_4_H (s : State) : Result := .next (s.setBit .b4 (.reg .h))

/-- `SET 4,L` (R223). -/
def execSet_4_L (s : State) : Result := .next (s.setBit .b4 (.reg .l))

/-- `SET 4,A` (R223). -/
def execSet_4_A (s : State) : Result := .next (s.setBit .b4 (.reg .a))

/-- `SET 5,B` (R223). -/
def execSet_5_B (s : State) : Result := .next (s.setBit .b5 (.reg .b))

/-- `SET 5,C` (R223). -/
def execSet_5_C (s : State) : Result := .next (s.setBit .b5 (.reg .c))

/-- `SET 5,D` (R223). -/
def execSet_5_D (s : State) : Result := .next (s.setBit .b5 (.reg .d))

/-- `SET 5,E` (R223). -/
def execSet_5_E (s : State) : Result := .next (s.setBit .b5 (.reg .e))

/-- `SET 5,H` (R223). -/
def execSet_5_H (s : State) : Result := .next (s.setBit .b5 (.reg .h))

/-- `SET 5,L` (R223). -/
def execSet_5_L (s : State) : Result := .next (s.setBit .b5 (.reg .l))

/-- `SET 5,A` (R223). -/
def execSet_5_A (s : State) : Result := .next (s.setBit .b5 (.reg .a))

/-- `SET 6,B` (R223). -/
def execSet_6_B (s : State) : Result := .next (s.setBit .b6 (.reg .b))

/-- `SET 6,C` (R223). -/
def execSet_6_C (s : State) : Result := .next (s.setBit .b6 (.reg .c))

/-- `SET 6,D` (R223). -/
def execSet_6_D (s : State) : Result := .next (s.setBit .b6 (.reg .d))

/-- `SET 6,E` (R223). -/
def execSet_6_E (s : State) : Result := .next (s.setBit .b6 (.reg .e))

/-- `SET 6,H` (R223). -/
def execSet_6_H (s : State) : Result := .next (s.setBit .b6 (.reg .h))

/-- `SET 6,L` (R223). -/
def execSet_6_L (s : State) : Result := .next (s.setBit .b6 (.reg .l))

/-- `SET 6,A` (R223). -/
def execSet_6_A (s : State) : Result := .next (s.setBit .b6 (.reg .a))

/-- `SET 7,B` (R223). -/
def execSet_7_B (s : State) : Result := .next (s.setBit .b7 (.reg .b))

/-- `SET 7,C` (R223). -/
def execSet_7_C (s : State) : Result := .next (s.setBit .b7 (.reg .c))

/-- `SET 7,D` (R223). -/
def execSet_7_D (s : State) : Result := .next (s.setBit .b7 (.reg .d))

/-- `SET 7,E` (R223). -/
def execSet_7_E (s : State) : Result := .next (s.setBit .b7 (.reg .e))

/-- `SET 7,H` (R223). -/
def execSet_7_H (s : State) : Result := .next (s.setBit .b7 (.reg .h))

/-- `SET 7,L` (R223). -/
def execSet_7_L (s : State) : Result := .next (s.setBit .b7 (.reg .l))

/-- `SET 7,A` (R223). -/
def execSet_7_A (s : State) : Result := .next (s.setBit .b7 (.reg .a))

/-- `SET 0,(HL)` (R224). -/
def execSet_0_atHL (s : State) : Result := .next (s.setBit .b0 .atHL)

/-- `SET 1,(HL)` (R224). -/
def execSet_1_atHL (s : State) : Result := .next (s.setBit .b1 .atHL)

/-- `SET 2,(HL)` (R224). -/
def execSet_2_atHL (s : State) : Result := .next (s.setBit .b2 .atHL)

/-- `SET 3,(HL)` (R224). -/
def execSet_3_atHL (s : State) : Result := .next (s.setBit .b3 .atHL)

/-- `SET 4,(HL)` (R224). -/
def execSet_4_atHL (s : State) : Result := .next (s.setBit .b4 .atHL)

/-- `SET 5,(HL)` (R224). -/
def execSet_5_atHL (s : State) : Result := .next (s.setBit .b5 .atHL)

/-- `SET 6,(HL)` (R224). -/
def execSet_6_atHL (s : State) : Result := .next (s.setBit .b6 .atHL)

/-- `SET 7,(HL)` (R224). -/
def execSet_7_atHL (s : State) : Result := .next (s.setBit .b7 .atHL)

/-- `RES 0,B` (R225). -/
def execRes_0_B (s : State) : Result := .next (s.resBit .b0 (.reg .b))

/-- `RES 0,C` (R225). -/
def execRes_0_C (s : State) : Result := .next (s.resBit .b0 (.reg .c))

/-- `RES 0,D` (R225). -/
def execRes_0_D (s : State) : Result := .next (s.resBit .b0 (.reg .d))

/-- `RES 0,E` (R225). -/
def execRes_0_E (s : State) : Result := .next (s.resBit .b0 (.reg .e))

/-- `RES 0,H` (R225). -/
def execRes_0_H (s : State) : Result := .next (s.resBit .b0 (.reg .h))

/-- `RES 0,L` (R225). -/
def execRes_0_L (s : State) : Result := .next (s.resBit .b0 (.reg .l))

/-- `RES 0,A` (R225). -/
def execRes_0_A (s : State) : Result := .next (s.resBit .b0 (.reg .a))

/-- `RES 1,B` (R225). -/
def execRes_1_B (s : State) : Result := .next (s.resBit .b1 (.reg .b))

/-- `RES 1,C` (R225). -/
def execRes_1_C (s : State) : Result := .next (s.resBit .b1 (.reg .c))

/-- `RES 1,D` (R225). -/
def execRes_1_D (s : State) : Result := .next (s.resBit .b1 (.reg .d))

/-- `RES 1,E` (R225). -/
def execRes_1_E (s : State) : Result := .next (s.resBit .b1 (.reg .e))

/-- `RES 1,H` (R225). -/
def execRes_1_H (s : State) : Result := .next (s.resBit .b1 (.reg .h))

/-- `RES 1,L` (R225). -/
def execRes_1_L (s : State) : Result := .next (s.resBit .b1 (.reg .l))

/-- `RES 1,A` (R225). -/
def execRes_1_A (s : State) : Result := .next (s.resBit .b1 (.reg .a))

/-- `RES 2,B` (R225). -/
def execRes_2_B (s : State) : Result := .next (s.resBit .b2 (.reg .b))

/-- `RES 2,C` (R225). -/
def execRes_2_C (s : State) : Result := .next (s.resBit .b2 (.reg .c))

/-- `RES 2,D` (R225). -/
def execRes_2_D (s : State) : Result := .next (s.resBit .b2 (.reg .d))

/-- `RES 2,E` (R225). -/
def execRes_2_E (s : State) : Result := .next (s.resBit .b2 (.reg .e))

/-- `RES 2,H` (R225). -/
def execRes_2_H (s : State) : Result := .next (s.resBit .b2 (.reg .h))

/-- `RES 2,L` (R225). -/
def execRes_2_L (s : State) : Result := .next (s.resBit .b2 (.reg .l))

/-- `RES 2,A` (R225). -/
def execRes_2_A (s : State) : Result := .next (s.resBit .b2 (.reg .a))

/-- `RES 3,B` (R225). -/
def execRes_3_B (s : State) : Result := .next (s.resBit .b3 (.reg .b))

/-- `RES 3,C` (R225). -/
def execRes_3_C (s : State) : Result := .next (s.resBit .b3 (.reg .c))

/-- `RES 3,D` (R225). -/
def execRes_3_D (s : State) : Result := .next (s.resBit .b3 (.reg .d))

/-- `RES 3,E` (R225). -/
def execRes_3_E (s : State) : Result := .next (s.resBit .b3 (.reg .e))

/-- `RES 3,H` (R225). -/
def execRes_3_H (s : State) : Result := .next (s.resBit .b3 (.reg .h))

/-- `RES 3,L` (R225). -/
def execRes_3_L (s : State) : Result := .next (s.resBit .b3 (.reg .l))

/-- `RES 3,A` (R225). -/
def execRes_3_A (s : State) : Result := .next (s.resBit .b3 (.reg .a))

/-- `RES 4,B` (R225). -/
def execRes_4_B (s : State) : Result := .next (s.resBit .b4 (.reg .b))

/-- `RES 4,C` (R225). -/
def execRes_4_C (s : State) : Result := .next (s.resBit .b4 (.reg .c))

/-- `RES 4,D` (R225). -/
def execRes_4_D (s : State) : Result := .next (s.resBit .b4 (.reg .d))

/-- `RES 4,E` (R225). -/
def execRes_4_E (s : State) : Result := .next (s.resBit .b4 (.reg .e))

/-- `RES 4,H` (R225). -/
def execRes_4_H (s : State) : Result := .next (s.resBit .b4 (.reg .h))

/-- `RES 4,L` (R225). -/
def execRes_4_L (s : State) : Result := .next (s.resBit .b4 (.reg .l))

/-- `RES 4,A` (R225). -/
def execRes_4_A (s : State) : Result := .next (s.resBit .b4 (.reg .a))

/-- `RES 5,B` (R225). -/
def execRes_5_B (s : State) : Result := .next (s.resBit .b5 (.reg .b))

/-- `RES 5,C` (R225). -/
def execRes_5_C (s : State) : Result := .next (s.resBit .b5 (.reg .c))

/-- `RES 5,D` (R225). -/
def execRes_5_D (s : State) : Result := .next (s.resBit .b5 (.reg .d))

/-- `RES 5,E` (R225). -/
def execRes_5_E (s : State) : Result := .next (s.resBit .b5 (.reg .e))

/-- `RES 5,H` (R225). -/
def execRes_5_H (s : State) : Result := .next (s.resBit .b5 (.reg .h))

/-- `RES 5,L` (R225). -/
def execRes_5_L (s : State) : Result := .next (s.resBit .b5 (.reg .l))

/-- `RES 5,A` (R225). -/
def execRes_5_A (s : State) : Result := .next (s.resBit .b5 (.reg .a))

/-- `RES 6,B` (R225). -/
def execRes_6_B (s : State) : Result := .next (s.resBit .b6 (.reg .b))

/-- `RES 6,C` (R225). -/
def execRes_6_C (s : State) : Result := .next (s.resBit .b6 (.reg .c))

/-- `RES 6,D` (R225). -/
def execRes_6_D (s : State) : Result := .next (s.resBit .b6 (.reg .d))

/-- `RES 6,E` (R225). -/
def execRes_6_E (s : State) : Result := .next (s.resBit .b6 (.reg .e))

/-- `RES 6,H` (R225). -/
def execRes_6_H (s : State) : Result := .next (s.resBit .b6 (.reg .h))

/-- `RES 6,L` (R225). -/
def execRes_6_L (s : State) : Result := .next (s.resBit .b6 (.reg .l))

/-- `RES 6,A` (R225). -/
def execRes_6_A (s : State) : Result := .next (s.resBit .b6 (.reg .a))

/-- `RES 7,B` (R225). -/
def execRes_7_B (s : State) : Result := .next (s.resBit .b7 (.reg .b))

/-- `RES 7,C` (R225). -/
def execRes_7_C (s : State) : Result := .next (s.resBit .b7 (.reg .c))

/-- `RES 7,D` (R225). -/
def execRes_7_D (s : State) : Result := .next (s.resBit .b7 (.reg .d))

/-- `RES 7,E` (R225). -/
def execRes_7_E (s : State) : Result := .next (s.resBit .b7 (.reg .e))

/-- `RES 7,H` (R225). -/
def execRes_7_H (s : State) : Result := .next (s.resBit .b7 (.reg .h))

/-- `RES 7,L` (R225). -/
def execRes_7_L (s : State) : Result := .next (s.resBit .b7 (.reg .l))

/-- `RES 7,A` (R225). -/
def execRes_7_A (s : State) : Result := .next (s.resBit .b7 (.reg .a))

/-- `RES 0,(HL)` (R226). -/
def execRes_0_atHL (s : State) : Result := .next (s.resBit .b0 .atHL)

/-- `RES 1,(HL)` (R226). -/
def execRes_1_atHL (s : State) : Result := .next (s.resBit .b1 .atHL)

/-- `RES 2,(HL)` (R226). -/
def execRes_2_atHL (s : State) : Result := .next (s.resBit .b2 .atHL)

/-- `RES 3,(HL)` (R226). -/
def execRes_3_atHL (s : State) : Result := .next (s.resBit .b3 .atHL)

/-- `RES 4,(HL)` (R226). -/
def execRes_4_atHL (s : State) : Result := .next (s.resBit .b4 .atHL)

/-- `RES 5,(HL)` (R226). -/
def execRes_5_atHL (s : State) : Result := .next (s.resBit .b5 .atHL)

/-- `RES 6,(HL)` (R226). -/
def execRes_6_atHL (s : State) : Result := .next (s.resBit .b6 .atHL)

/-- `RES 7,(HL)` (R226). -/
def execRes_7_atHL (s : State) : Result := .next (s.resBit .b7 .atHL)

end Sys2Proof.Machine
end

