-- ==== Sys2Proof/Machine/Control.lean ====
section
/-! DEFINITION. Stack, jumps, calls, returns (46_stack_control.md). `pc` is already past the instruction (R107). -/

namespace Sys2Proof.Machine

/-- `PUSH qq` (R294). -/
def State.push (s : State) (q : StackPair) : State := s.push16 (s.stackPair q)

/-- `POP qq` (R295). -/
def State.pop (s : State) (q : StackPair) : State :=
  let r := s.pop16
  r.2.setStackPair q r.1

/-- A conditional form (R297, R308): the unconditional one when the condition holds, else nothing. -/
def State.whenHolds (s : State) (cc : Cond) (taken : State) : State := if s.holds cc then taken else s

/-- `JR e` (R299). -/
def State.jumpRel (s : State) (e : Byte) : State := s.jump (s.pc + sext16 e)

/-- `CALL nn` (R302), and `RST t` as a call of its vector (R307). -/
def State.call (s : State) (target : Word) : State := (s.push16 s.pc).jump target

/-- `RET` (R304). -/
def State.ret (s : State) : State :=
  let r := s.pop16
  r.2.jump r.1

/-- `RETI` (R305): RET, then the gate. -/
def State.reti (s : State) : State := { s.ret with ime := true }

/-- `PUSH BC` (R294). -/
def execPush_BC (s : State) : Result := .next (s.push .bc)

/-- `PUSH DE` (R294). -/
def execPush_DE (s : State) : Result := .next (s.push .de)

/-- `PUSH HL` (R294). -/
def execPush_HL (s : State) : Result := .next (s.push .hl)

/-- `PUSH AF` (R294). -/
def execPush_AF (s : State) : Result := .next (s.push .af)

/-- `POP BC` (R295). -/
def execPop_BC (s : State) : Result := .next (s.pop .bc)

/-- `POP DE` (R295). -/
def execPop_DE (s : State) : Result := .next (s.pop .de)

/-- `POP HL` (R295). -/
def execPop_HL (s : State) : Result := .next (s.pop .hl)

/-- `POP AF` (R295). -/
def execPop_AF (s : State) : Result := .next (s.pop .af)

/-- `JP nn` (R296). -/
def execJp_nn (nn : Word) (s : State) : Result := .next (s.jump nn)

/-- `JP NZ,nn` (R298). -/
def execJp_NZ_nn (nn : Word) (s : State) : Result := .next (s.whenHolds .nz (s.jump nn))

/-- `JP Z,nn` (R298). -/
def execJp_Z_nn (nn : Word) (s : State) : Result := .next (s.whenHolds .z (s.jump nn))

/-- `JP NC,nn` (R298). -/
def execJp_NC_nn (nn : Word) (s : State) : Result := .next (s.whenHolds .nc (s.jump nn))

/-- `JP C,nn` (R298). -/
def execJp_C_nn (nn : Word) (s : State) : Result := .next (s.whenHolds .c (s.jump nn))

/-- `JR e` (R299). -/
def execJr_e (e : Byte) (s : State) : Result := .next (s.jumpRel e)

/-- `JR NZ,e` (R300). -/
def execJr_NZ_e (e : Byte) (s : State) : Result := .next (s.whenHolds .nz (s.jumpRel e))

/-- `JR Z,e` (R300). -/
def execJr_Z_e (e : Byte) (s : State) : Result := .next (s.whenHolds .z (s.jumpRel e))

/-- `JR NC,e` (R300). -/
def execJr_NC_e (e : Byte) (s : State) : Result := .next (s.whenHolds .nc (s.jumpRel e))

/-- `JR C,e` (R300). -/
def execJr_C_e (e : Byte) (s : State) : Result := .next (s.whenHolds .c (s.jumpRel e))

/-- `JP (HL)` (R301). -/
def execJp_atHL (s : State) : Result := .next (s.jump s.hl)

/-- `CALL nn` (R302). -/
def execCall_nn (nn : Word) (s : State) : Result := .next (s.call nn)

/-- `CALL NZ,nn` (R303). -/
def execCall_NZ_nn (nn : Word) (s : State) : Result := .next (s.whenHolds .nz (s.call nn))

/-- `CALL Z,nn` (R303). -/
def execCall_Z_nn (nn : Word) (s : State) : Result := .next (s.whenHolds .z (s.call nn))

/-- `CALL NC,nn` (R303). -/
def execCall_NC_nn (nn : Word) (s : State) : Result := .next (s.whenHolds .nc (s.call nn))

/-- `CALL C,nn` (R303). -/
def execCall_C_nn (nn : Word) (s : State) : Result := .next (s.whenHolds .c (s.call nn))

/-- `RET` (R304). -/
def execRet (s : State) : Result := .next (s.ret)

/-- `RETI` (R305). -/
def execReti (s : State) : Result := .next (s.reti)

/-- `RET NZ` (R306). -/
def execRet_NZ (s : State) : Result := .next (s.whenHolds .nz (s.ret))

/-- `RET Z` (R306). -/
def execRet_Z (s : State) : Result := .next (s.whenHolds .z (s.ret))

/-- `RET NC` (R306). -/
def execRet_NC (s : State) : Result := .next (s.whenHolds .nc (s.ret))

/-- `RET C` (R306). -/
def execRet_C (s : State) : Result := .next (s.whenHolds .c (s.ret))

/-- `RST 0x00` (R307). -/
def execRst_00 (s : State) : Result := .next (s.call (rstTarget .v00))

/-- `RST 0x08` (R307). -/
def execRst_08 (s : State) : Result := .next (s.call (rstTarget .v08))

/-- `RST 0x10` (R307). -/
def execRst_10 (s : State) : Result := .next (s.call (rstTarget .v10))

/-- `RST 0x18` (R307). -/
def execRst_18 (s : State) : Result := .next (s.call (rstTarget .v18))

/-- `RST 0x20` (R307). -/
def execRst_20 (s : State) : Result := .next (s.call (rstTarget .v20))

/-- `RST 0x28` (R307). -/
def execRst_28 (s : State) : Result := .next (s.call (rstTarget .v28))

/-- `RST 0x30` (R307). -/
def execRst_30 (s : State) : Result := .next (s.call (rstTarget .v30))

/-- `RST 0x38` (R307). -/
def execRst_38 (s : State) : Result := .next (s.call (rstTarget .v38))

end Sys2Proof.Machine
end

