-- ==== Sys2Proof/Machine/Gate.lean ====
section
/-! DEFINITION. Interrupt gate, NOP, HALT, STOP, the CB prefix (47_gate_misc.md), and the unmapped bytes (R104). -/

namespace Sys2Proof.Machine

/-- Sets the interrupt master enable (R320, R321): at once, with no delay. -/
def State.setIme (s : State) (v : Bool) : State := { s with ime := v }

/-- Sets the run state (R323, R324). -/
def State.setRun (s : State) (r : RunState) : State := { s with run := r }

/-- Sets the decode mode (R325). -/
def State.setMode (s : State) (m : DecodeMode) : State := { s with mode := m }

/-- An unmapped byte (R104, R340, R341). -/
def execUnmapped (op : Byte) (s : State) : Result := raiseUnimplemented op s

/-- `DI` (R320). -/
def execDi (s : State) : Result := .next (s.setIme false)

/-- `EI` (R321). -/
def execEi (s : State) : Result := .next (s.setIme true)

/-- `NOP` (R322, R105). -/
def execNop (s : State) : Result := admitGK "NOP" s s

/-- `HALT` (R323, R105). -/
def execHalt (s : State) : Result := admitGK "HALT" s (s.setRun .halted)

/-- `STOP` (R324, R105): the operand byte has no effect. -/
def execStop (_n : Byte) (s : State) : Result := admitGK "STOP" s (s.setRun .stopped)

/-- `PREFIX CB` (R325). -/
def execPrefix_CB (s : State) : Result := .next (s.setMode .extended)

end Sys2Proof.Machine
end

