-- ==== Sys2Proof/Machine/Load16.lean ====
section
/-! DEFINITION. 16-bit loads (45_load16.md). -/

namespace Sys2Proof.Machine

/-- `LD (nn),SP` (R271): the low byte at `nn`, then the high byte at `nn +_16 1`. -/
def State.storeSP (s : State) (nn : Word) : State :=
  (s.memWrite nn (loByte s.sp)).memWrite (nn + 1#16) (hiByte s.sp)

/-- `LD HL,SP+e` (R273): the one load that writes flags. -/
def State.loadHLSP (s : State) (e : Byte) : State :=
  let out := addSigned s.sp e
  (s.setPair .hl out.1).setFlags out.2

/-- `LD BC,nn` (R270). -/
def execLd_BC_nn (nn : Word) (s : State) : Result := .next (s.setPair .bc nn)

/-- `LD DE,nn` (R270). -/
def execLd_DE_nn (nn : Word) (s : State) : Result := .next (s.setPair .de nn)

/-- `LD HL,nn` (R270). -/
def execLd_HL_nn (nn : Word) (s : State) : Result := .next (s.setPair .hl nn)

/-- `LD SP,nn` (R270). -/
def execLd_SP_nn (nn : Word) (s : State) : Result := .next (s.setPair .sp nn)

/-- `LD (nn),SP` (R271). -/
def execLd_atNN_SP (nn : Word) (s : State) : Result := .next (s.storeSP nn)

/-- `LD SP,HL` (R272). -/
def execLd_SP_HL (s : State) : Result := .next (s.setPair .sp s.hl)

/-- `LD HL,SP+e` (R273). -/
def execLd_HL_SPe (e : Byte) (s : State) : Result := .next (s.loadHLSP e)

end Sys2Proof.Machine
end

