-- ==== Sys2Proof/Machine/Load8.lean ====
section
/-! DEFINITION. 8-bit loads and stores (44_load8.md). No flag changes (R230). -/

namespace Sys2Proof.Machine

/-- A load of a register from memory: one read, whose address is formed before the register is written (R233). -/
def State.loadReg (s : State) (r : Reg8) (addr : Word) : State :=
  let m := s.memRead addr
  m.2.setReg r m.1

/-- A store of A: one write. -/
def State.storeA (s : State) (addr : Word) : State := s.memWrite addr s.a

/-- `LD B,B` (R231). -/
def execLd_B_B (s : State) : Result := .next (s.setReg .b (s.reg .b))

/-- `LD B,C` (R231). -/
def execLd_B_C (s : State) : Result := .next (s.setReg .b (s.reg .c))

/-- `LD B,D` (R231). -/
def execLd_B_D (s : State) : Result := .next (s.setReg .b (s.reg .d))

/-- `LD B,E` (R231). -/
def execLd_B_E (s : State) : Result := .next (s.setReg .b (s.reg .e))

/-- `LD B,H` (R231). -/
def execLd_B_H (s : State) : Result := .next (s.setReg .b (s.reg .h))

/-- `LD B,L` (R231). -/
def execLd_B_L (s : State) : Result := .next (s.setReg .b (s.reg .l))

/-- `LD B,A` (R231). -/
def execLd_B_A (s : State) : Result := .next (s.setReg .b (s.reg .a))

/-- `LD C,B` (R231). -/
def execLd_C_B (s : State) : Result := .next (s.setReg .c (s.reg .b))

/-- `LD C,C` (R231). -/
def execLd_C_C (s : State) : Result := .next (s.setReg .c (s.reg .c))

/-- `LD C,D` (R231). -/
def execLd_C_D (s : State) : Result := .next (s.setReg .c (s.reg .d))

/-- `LD C,E` (R231). -/
def execLd_C_E (s : State) : Result := .next (s.setReg .c (s.reg .e))

/-- `LD C,H` (R231). -/
def execLd_C_H (s : State) : Result := .next (s.setReg .c (s.reg .h))

/-- `LD C,L` (R231). -/
def execLd_C_L (s : State) : Result := .next (s.setReg .c (s.reg .l))

/-- `LD C,A` (R231). -/
def execLd_C_A (s : State) : Result := .next (s.setReg .c (s.reg .a))

/-- `LD D,B` (R231). -/
def execLd_D_B (s : State) : Result := .next (s.setReg .d (s.reg .b))

/-- `LD D,C` (R231). -/
def execLd_D_C (s : State) : Result := .next (s.setReg .d (s.reg .c))

/-- `LD D,D` (R231). -/
def execLd_D_D (s : State) : Result := .next (s.setReg .d (s.reg .d))

/-- `LD D,E` (R231). -/
def execLd_D_E (s : State) : Result := .next (s.setReg .d (s.reg .e))

/-- `LD D,H` (R231). -/
def execLd_D_H (s : State) : Result := .next (s.setReg .d (s.reg .h))

/-- `LD D,L` (R231). -/
def execLd_D_L (s : State) : Result := .next (s.setReg .d (s.reg .l))

/-- `LD D,A` (R231). -/
def execLd_D_A (s : State) : Result := .next (s.setReg .d (s.reg .a))

/-- `LD E,B` (R231). -/
def execLd_E_B (s : State) : Result := .next (s.setReg .e (s.reg .b))

/-- `LD E,C` (R231). -/
def execLd_E_C (s : State) : Result := .next (s.setReg .e (s.reg .c))

/-- `LD E,D` (R231). -/
def execLd_E_D (s : State) : Result := .next (s.setReg .e (s.reg .d))

/-- `LD E,E` (R231). -/
def execLd_E_E (s : State) : Result := .next (s.setReg .e (s.reg .e))

/-- `LD E,H` (R231). -/
def execLd_E_H (s : State) : Result := .next (s.setReg .e (s.reg .h))

/-- `LD E,L` (R231). -/
def execLd_E_L (s : State) : Result := .next (s.setReg .e (s.reg .l))

/-- `LD E,A` (R231). -/
def execLd_E_A (s : State) : Result := .next (s.setReg .e (s.reg .a))

/-- `LD H,B` (R231). -/
def execLd_H_B (s : State) : Result := .next (s.setReg .h (s.reg .b))

/-- `LD H,C` (R231). -/
def execLd_H_C (s : State) : Result := .next (s.setReg .h (s.reg .c))

/-- `LD H,D` (R231). -/
def execLd_H_D (s : State) : Result := .next (s.setReg .h (s.reg .d))

/-- `LD H,E` (R231). -/
def execLd_H_E (s : State) : Result := .next (s.setReg .h (s.reg .e))

/-- `LD H,H` (R231). -/
def execLd_H_H (s : State) : Result := .next (s.setReg .h (s.reg .h))

/-- `LD H,L` (R231). -/
def execLd_H_L (s : State) : Result := .next (s.setReg .h (s.reg .l))

/-- `LD H,A` (R231). -/
def execLd_H_A (s : State) : Result := .next (s.setReg .h (s.reg .a))

/-- `LD L,B` (R231). -/
def execLd_L_B (s : State) : Result := .next (s.setReg .l (s.reg .b))

/-- `LD L,C` (R231). -/
def execLd_L_C (s : State) : Result := .next (s.setReg .l (s.reg .c))

/-- `LD L,D` (R231). -/
def execLd_L_D (s : State) : Result := .next (s.setReg .l (s.reg .d))

/-- `LD L,E` (R231). -/
def execLd_L_E (s : State) : Result := .next (s.setReg .l (s.reg .e))

/-- `LD L,H` (R231). -/
def execLd_L_H (s : State) : Result := .next (s.setReg .l (s.reg .h))

/-- `LD L,L` (R231). -/
def execLd_L_L (s : State) : Result := .next (s.setReg .l (s.reg .l))

/-- `LD L,A` (R231). -/
def execLd_L_A (s : State) : Result := .next (s.setReg .l (s.reg .a))

/-- `LD A,B` (R231). -/
def execLd_A_B (s : State) : Result := .next (s.setReg .a (s.reg .b))

/-- `LD A,C` (R231). -/
def execLd_A_C (s : State) : Result := .next (s.setReg .a (s.reg .c))

/-- `LD A,D` (R231). -/
def execLd_A_D (s : State) : Result := .next (s.setReg .a (s.reg .d))

/-- `LD A,E` (R231). -/
def execLd_A_E (s : State) : Result := .next (s.setReg .a (s.reg .e))

/-- `LD A,H` (R231). -/
def execLd_A_H (s : State) : Result := .next (s.setReg .a (s.reg .h))

/-- `LD A,L` (R231). -/
def execLd_A_L (s : State) : Result := .next (s.setReg .a (s.reg .l))

/-- `LD A,A` (R231). -/
def execLd_A_A (s : State) : Result := .next (s.setReg .a (s.reg .a))

/-- `LD B,n` (R232). -/
def execLd_B_n (n : Byte) (s : State) : Result := .next (s.setReg .b n)

/-- `LD C,n` (R232). -/
def execLd_C_n (n : Byte) (s : State) : Result := .next (s.setReg .c n)

/-- `LD D,n` (R232). -/
def execLd_D_n (n : Byte) (s : State) : Result := .next (s.setReg .d n)

/-- `LD E,n` (R232). -/
def execLd_E_n (n : Byte) (s : State) : Result := .next (s.setReg .e n)

/-- `LD H,n` (R232). -/
def execLd_H_n (n : Byte) (s : State) : Result := .next (s.setReg .h n)

/-- `LD L,n` (R232). -/
def execLd_L_n (n : Byte) (s : State) : Result := .next (s.setReg .l n)

/-- `LD A,n` (R232). -/
def execLd_A_n (n : Byte) (s : State) : Result := .next (s.setReg .a n)

/-- `LD B,(HL)` (R233). -/
def execLd_B_atHL (s : State) : Result := .next (s.loadReg .b s.hl)

/-- `LD C,(HL)` (R233). -/
def execLd_C_atHL (s : State) : Result := .next (s.loadReg .c s.hl)

/-- `LD D,(HL)` (R233). -/
def execLd_D_atHL (s : State) : Result := .next (s.loadReg .d s.hl)

/-- `LD E,(HL)` (R233). -/
def execLd_E_atHL (s : State) : Result := .next (s.loadReg .e s.hl)

/-- `LD H,(HL)` (R233). -/
def execLd_H_atHL (s : State) : Result := .next (s.loadReg .h s.hl)

/-- `LD L,(HL)` (R233). -/
def execLd_L_atHL (s : State) : Result := .next (s.loadReg .l s.hl)

/-- `LD A,(HL)` (R233). -/
def execLd_A_atHL (s : State) : Result := .next (s.loadReg .a s.hl)

/-- `LD (HL),B` (R234). -/
def execLd_atHL_B (s : State) : Result := .next (s.memWrite s.hl (s.reg .b))

/-- `LD (HL),C` (R234). -/
def execLd_atHL_C (s : State) : Result := .next (s.memWrite s.hl (s.reg .c))

/-- `LD (HL),D` (R234). -/
def execLd_atHL_D (s : State) : Result := .next (s.memWrite s.hl (s.reg .d))

/-- `LD (HL),E` (R234). -/
def execLd_atHL_E (s : State) : Result := .next (s.memWrite s.hl (s.reg .e))

/-- `LD (HL),H` (R234). -/
def execLd_atHL_H (s : State) : Result := .next (s.memWrite s.hl (s.reg .h))

/-- `LD (HL),L` (R234). -/
def execLd_atHL_L (s : State) : Result := .next (s.memWrite s.hl (s.reg .l))

/-- `LD (HL),A` (R234). -/
def execLd_atHL_A (s : State) : Result := .next (s.memWrite s.hl (s.reg .a))

/-- `LD (HL),n` (R235). -/
def execLd_atHL_n (n : Byte) (s : State) : Result := .next (s.memWrite s.hl n)

/-- `LD A,(BC)` (R236). -/
def execLd_A_atBC (s : State) : Result := .next (s.loadReg .a (s.pair .bc))

/-- `LD A,(DE)` (R237). -/
def execLd_A_atDE (s : State) : Result := .next (s.loadReg .a (s.pair .de))

/-- `LD (BC),A` (R238). -/
def execLd_atBC_A (s : State) : Result := .next (s.storeA (s.pair .bc))

/-- `LD (DE),A` (R239). -/
def execLd_atDE_A (s : State) : Result := .next (s.storeA (s.pair .de))

/-- `LDH (n),A` (R240). -/
def execLdh_atN_A (n : Byte) (s : State) : Result := .next (s.storeA (highPage n))

/-- `LDH A,(n)` (R241). -/
def execLdh_A_atN (n : Byte) (s : State) : Result := .next (s.loadReg .a (highPage n))

/-- `LD (C),A` (R242). -/
def execLd_atC_A (s : State) : Result := .next (s.storeA (highPage s.c))

/-- `LD A,(C)` (R243). -/
def execLd_A_atC (s : State) : Result := .next (s.loadReg .a (highPage s.c))

/-- `LD (nn),A` (R244). -/
def execLd_atNN_A (nn : Word) (s : State) : Result := .next (s.storeA nn)

/-- `LD A,(nn)` (R245). -/
def execLd_A_atNN (nn : Word) (s : State) : Result := .next (s.loadReg .a nn)

/-- `LD (HL+),A` (R246). -/
def execLd_atHLinc_A (s : State) : Result := .next ((s.storeA s.hl).setPair .hl (s.hl + 1#16))

/-- `LD A,(HL+)` (R247). -/
def execLd_A_atHLinc (s : State) : Result := .next ((s.loadReg .a s.hl).setPair .hl (s.hl + 1#16))

/-- `LD (HL-),A` (R248). -/
def execLd_atHLdec_A (s : State) : Result := .next ((s.storeA s.hl).setPair .hl (s.hl - 1#16))

/-- `LD A,(HL-)` (R249). -/
def execLd_A_atHLdec (s : State) : Result := .next ((s.loadReg .a s.hl).setPair .hl (s.hl - 1#16))

end Sys2Proof.Machine
end

