-- ==== Sys2Proof/Machine/Rotate.lean ====
section
/-! DEFINITION. Rotates, shifts and SWAP (42_rotate_shift.md). -/

namespace Sys2Proof.Machine

/-- RLCA, RRCA, RLA, RRA (R198 to R202). -/
def State.rotateA (s : State) (op : RotOp) : State :=
  let out := rotateA8 s.params.hwFlagCompat op s.a s.flags.c
  (s.setReg .a out.1).setFlags out.2

/-- An extended rotate or shift of a register, or of the byte at HL: one read, then one write (R198, R203 to R218). -/
def State.rotateLoc (s : State) (op : RotOp) (x : Loc8) : State :=
  let r := s.readLoc x
  let out := rotate8 op r.1 s.flags.c
  (r.2.writeLoc x out.1).setFlags out.2

/-- `RLCA` (R199). -/
def execRlca (s : State) : Result := .next (s.rotateA .rlc)

/-- `RRCA` (R200). -/
def execRrca (s : State) : Result := .next (s.rotateA .rrc)

/-- `RLA` (R201). -/
def execRla (s : State) : Result := .next (s.rotateA .rl)

/-- `RRA` (R202). -/
def execRra (s : State) : Result := .next (s.rotateA .rr)

/-- `RLC B` (R203). -/
def execRlc_B (s : State) : Result := .next (s.rotateLoc .rlc (.reg .b))

/-- `RLC C` (R203). -/
def execRlc_C (s : State) : Result := .next (s.rotateLoc .rlc (.reg .c))

/-- `RLC D` (R203). -/
def execRlc_D (s : State) : Result := .next (s.rotateLoc .rlc (.reg .d))

/-- `RLC E` (R203). -/
def execRlc_E (s : State) : Result := .next (s.rotateLoc .rlc (.reg .e))

/-- `RLC H` (R203). -/
def execRlc_H (s : State) : Result := .next (s.rotateLoc .rlc (.reg .h))

/-- `RLC L` (R203). -/
def execRlc_L (s : State) : Result := .next (s.rotateLoc .rlc (.reg .l))

/-- `RLC A` (R203). -/
def execRlc_A (s : State) : Result := .next (s.rotateLoc .rlc (.reg .a))

/-- `RLC (HL)` (R204). -/
def execRlc_atHL (s : State) : Result := .next (s.rotateLoc .rlc .atHL)

/-- `RRC B` (R205). -/
def execRrc_B (s : State) : Result := .next (s.rotateLoc .rrc (.reg .b))

/-- `RRC C` (R205). -/
def execRrc_C (s : State) : Result := .next (s.rotateLoc .rrc (.reg .c))

/-- `RRC D` (R205). -/
def execRrc_D (s : State) : Result := .next (s.rotateLoc .rrc (.reg .d))

/-- `RRC E` (R205). -/
def execRrc_E (s : State) : Result := .next (s.rotateLoc .rrc (.reg .e))

/-- `RRC H` (R205). -/
def execRrc_H (s : State) : Result := .next (s.rotateLoc .rrc (.reg .h))

/-- `RRC L` (R205). -/
def execRrc_L (s : State) : Result := .next (s.rotateLoc .rrc (.reg .l))

/-- `RRC A` (R205). -/
def execRrc_A (s : State) : Result := .next (s.rotateLoc .rrc (.reg .a))

/-- `RRC (HL)` (R206). -/
def execRrc_atHL (s : State) : Result := .next (s.rotateLoc .rrc .atHL)

/-- `RL B` (R207). -/
def execRl_B (s : State) : Result := .next (s.rotateLoc .rl (.reg .b))

/-- `RL C` (R207). -/
def execRl_C (s : State) : Result := .next (s.rotateLoc .rl (.reg .c))

/-- `RL D` (R207). -/
def execRl_D (s : State) : Result := .next (s.rotateLoc .rl (.reg .d))

/-- `RL E` (R207). -/
def execRl_E (s : State) : Result := .next (s.rotateLoc .rl (.reg .e))

/-- `RL H` (R207). -/
def execRl_H (s : State) : Result := .next (s.rotateLoc .rl (.reg .h))

/-- `RL L` (R207). -/
def execRl_L (s : State) : Result := .next (s.rotateLoc .rl (.reg .l))

/-- `RL A` (R207). -/
def execRl_A (s : State) : Result := .next (s.rotateLoc .rl (.reg .a))

/-- `RL (HL)` (R208). -/
def execRl_atHL (s : State) : Result := .next (s.rotateLoc .rl .atHL)

/-- `RR B` (R209). -/
def execRr_B (s : State) : Result := .next (s.rotateLoc .rr (.reg .b))

/-- `RR C` (R209). -/
def execRr_C (s : State) : Result := .next (s.rotateLoc .rr (.reg .c))

/-- `RR D` (R209). -/
def execRr_D (s : State) : Result := .next (s.rotateLoc .rr (.reg .d))

/-- `RR E` (R209). -/
def execRr_E (s : State) : Result := .next (s.rotateLoc .rr (.reg .e))

/-- `RR H` (R209). -/
def execRr_H (s : State) : Result := .next (s.rotateLoc .rr (.reg .h))

/-- `RR L` (R209). -/
def execRr_L (s : State) : Result := .next (s.rotateLoc .rr (.reg .l))

/-- `RR A` (R209). -/
def execRr_A (s : State) : Result := .next (s.rotateLoc .rr (.reg .a))

/-- `RR (HL)` (R210). -/
def execRr_atHL (s : State) : Result := .next (s.rotateLoc .rr .atHL)

/-- `SLA B` (R211). -/
def execSla_B (s : State) : Result := .next (s.rotateLoc .sla (.reg .b))

/-- `SLA C` (R211). -/
def execSla_C (s : State) : Result := .next (s.rotateLoc .sla (.reg .c))

/-- `SLA D` (R211). -/
def execSla_D (s : State) : Result := .next (s.rotateLoc .sla (.reg .d))

/-- `SLA E` (R211). -/
def execSla_E (s : State) : Result := .next (s.rotateLoc .sla (.reg .e))

/-- `SLA H` (R211). -/
def execSla_H (s : State) : Result := .next (s.rotateLoc .sla (.reg .h))

/-- `SLA L` (R211). -/
def execSla_L (s : State) : Result := .next (s.rotateLoc .sla (.reg .l))

/-- `SLA A` (R211). -/
def execSla_A (s : State) : Result := .next (s.rotateLoc .sla (.reg .a))

/-- `SLA (HL)` (R212). -/
def execSla_atHL (s : State) : Result := .next (s.rotateLoc .sla .atHL)

/-- `SRA B` (R213). -/
def execSra_B (s : State) : Result := .next (s.rotateLoc .sra (.reg .b))

/-- `SRA C` (R213). -/
def execSra_C (s : State) : Result := .next (s.rotateLoc .sra (.reg .c))

/-- `SRA D` (R213). -/
def execSra_D (s : State) : Result := .next (s.rotateLoc .sra (.reg .d))

/-- `SRA E` (R213). -/
def execSra_E (s : State) : Result := .next (s.rotateLoc .sra (.reg .e))

/-- `SRA H` (R213). -/
def execSra_H (s : State) : Result := .next (s.rotateLoc .sra (.reg .h))

/-- `SRA L` (R213). -/
def execSra_L (s : State) : Result := .next (s.rotateLoc .sra (.reg .l))

/-- `SRA A` (R213). -/
def execSra_A (s : State) : Result := .next (s.rotateLoc .sra (.reg .a))

/-- `SRA (HL)` (R214). -/
def execSra_atHL (s : State) : Result := .next (s.rotateLoc .sra .atHL)

/-- `SWAP B` (R215). -/
def execSwap_B (s : State) : Result := .next (s.rotateLoc .swap (.reg .b))

/-- `SWAP C` (R215). -/
def execSwap_C (s : State) : Result := .next (s.rotateLoc .swap (.reg .c))

/-- `SWAP D` (R215). -/
def execSwap_D (s : State) : Result := .next (s.rotateLoc .swap (.reg .d))

/-- `SWAP E` (R215). -/
def execSwap_E (s : State) : Result := .next (s.rotateLoc .swap (.reg .e))

/-- `SWAP H` (R215). -/
def execSwap_H (s : State) : Result := .next (s.rotateLoc .swap (.reg .h))

/-- `SWAP L` (R215). -/
def execSwap_L (s : State) : Result := .next (s.rotateLoc .swap (.reg .l))

/-- `SWAP A` (R215). -/
def execSwap_A (s : State) : Result := .next (s.rotateLoc .swap (.reg .a))

/-- `SWAP (HL)` (R216). -/
def execSwap_atHL (s : State) : Result := .next (s.rotateLoc .swap .atHL)

/-- `SRL B` (R217). -/
def execSrl_B (s : State) : Result := .next (s.rotateLoc .srl (.reg .b))

/-- `SRL C` (R217). -/
def execSrl_C (s : State) : Result := .next (s.rotateLoc .srl (.reg .c))

/-- `SRL D` (R217). -/
def execSrl_D (s : State) : Result := .next (s.rotateLoc .srl (.reg .d))

/-- `SRL E` (R217). -/
def execSrl_E (s : State) : Result := .next (s.rotateLoc .srl (.reg .e))

/-- `SRL H` (R217). -/
def execSrl_H (s : State) : Result := .next (s.rotateLoc .srl (.reg .h))

/-- `SRL L` (R217). -/
def execSrl_L (s : State) : Result := .next (s.rotateLoc .srl (.reg .l))

/-- `SRL A` (R217). -/
def execSrl_A (s : State) : Result := .next (s.rotateLoc .srl (.reg .a))

/-- `SRL (HL)` (R218). -/
def execSrl_atHL (s : State) : Result := .next (s.rotateLoc .srl .atHL)

end Sys2Proof.Machine
end

