-- ==== Sys2Proof/Machine/Fetch.lean ====
section
/-! DEFINITION. The fetch stage of a step (R106, R107), and placing an instruction where the next step fetches it. -/

namespace Sys2Proof.Machine

/-- A step begins with no access made yet (R65). -/
def State.beginStep (s : State) : State := { s with bus := [] }

/-- The fetch stage (R107): the opcode byte at `pc`, then as many operand bytes as it alone decides, low byte first, `pc`
moving past each. The instruction is looked up in the table of the mode the step began in, and `mode` is Primary from here
on: "after which mode reverts to Primary". An unmapped byte fetches no operand byte (R104). -/
def State.fetchInstr (s : State) : Instr × State :=
  let op := s.fetch8
  match operandCount s.mode op.1 with
  | 0 => (decodeOp s.mode op.1 0#8 0#8, { op.2 with mode := .primary })
  | 1 =>
    let lo := op.2.fetch8
    (decodeOp s.mode op.1 lo.1 0#8, { lo.2 with mode := .primary })
  | _ =>
    let lo := op.2.fetch8
    let hi := lo.2.fetch8
    (decodeOp s.mode op.1 lo.1 hi.1, { hi.2 with mode := .primary })

/-- Puts bytes into memory from an address upward, from outside the machine (R382): no call of the core's interface. -/
def State.placeBytes (s : State) (a : Word) (bytes : List Byte) : State :=
  match bytes with
  | [] => s
  | v :: rest => State.placeBytes { s with mem := s.mem.write a.toNat v } (a + 1#16) rest

/-- The state whose next step runs the instruction of a table word (log entry 13): its three bytes stand at `pc`, the core
is running, memory is plain RAM and the mode is Primary. For the two-byte form of an extended instruction the prefix has
been executed already (R108): `mode` is Extended and `pc` is at the second byte. -/
def State.placeTableWord (s : State) (nbits w : Nat) : State :=
  let t := State.placeBytes s s.pc [tableByte nbits w 0, tableByte nbits w 1, tableByte nbits w 2]
  let u := { t with run := .running, params := { t.params with memory := .ram } }
  if tableWordExtended nbits w then { u with mode := .extended, pc := s.pc + 1#16 } else { u with mode := .primary }

end Sys2Proof.Machine
end

