-- ==== Sys2Proof/Machine/Step.lean ====
section
/-! DEFINITION. One step (R107). -/

namespace Sys2Proof.Machine

/-- One step: fetch, decode, execute. While `run` is not Running a step does nothing (R107: "no memory access, no state
change"); the access list, which is the model's own, is then empty. -/
def step (s : State) : Host.Outcome State Fault Refusal :=
  match s.run with
  | .running => exec s.beginStep.fetchInstr.1 s.beginStep.fetchInstr.2
  | _ => .next s.beginStep

/-- The state with an instruction of the opcode table stored where the next step fetches it. -/
def State.withFetchWord (s : State) (nbits w : Nat) : State := s.placeTableWord nbits w

end Sys2Proof.Machine
end

