-- ==== Sys2Proof/Machine/Families.lean ====
section
/-! DEFINITION. The instructions by family: for each family of the spec whose members differ only in an operand code, the
function from the operand codes (R93 to R98) to the instruction. The statements about a whole family are written with these;
no meaning uses them. -/

namespace Sys2Proof

/-- The accumulator operations on a register, the byte at HL or an immediate (R130, R140 to R163). -/
def Instr.alu : AluOp → Src8 → Instr
  | .add, .loc (.reg .b) => .add_A_B | .add, .loc (.reg .c) => .add_A_C | .add, .loc (.reg .d) => .add_A_D
  | .add, .loc (.reg .e) => .add_A_E | .add, .loc (.reg .h) => .add_A_H | .add, .loc (.reg .l) => .add_A_L
  | .add, .loc .atHL => .add_A_atHL | .add, .loc (.reg .a) => .add_A_A | .add, .imm n => .add_A_n n
  | .adc, .loc (.reg .b) => .adc_A_B | .adc, .loc (.reg .c) => .adc_A_C | .adc, .loc (.reg .d) => .adc_A_D
  | .adc, .loc (.reg .e) => .adc_A_E | .adc, .loc (.reg .h) => .adc_A_H | .adc, .loc (.reg .l) => .adc_A_L
  | .adc, .loc .atHL => .adc_A_atHL | .adc, .loc (.reg .a) => .adc_A_A | .adc, .imm n => .adc_A_n n
  | .sub, .loc (.reg .b) => .sub_B | .sub, .loc (.reg .c) => .sub_C | .sub, .loc (.reg .d) => .sub_D
  | .sub, .loc (.reg .e) => .sub_E | .sub, .loc (.reg .h) => .sub_H | .sub, .loc (.reg .l) => .sub_L
  | .sub, .loc .atHL => .sub_atHL | .sub, .loc (.reg .a) => .sub_A | .sub, .imm n => .sub_n n
  | .sbc, .loc (.reg .b) => .sbc_A_B | .sbc, .loc (.reg .c) => .sbc_A_C | .sbc, .loc (.reg .d) => .sbc_A_D
  | .sbc, .loc (.reg .e) => .sbc_A_E | .sbc, .loc (.reg .h) => .sbc_A_H | .sbc, .loc (.reg .l) => .sbc_A_L
  | .sbc, .loc .atHL => .sbc_A_atHL | .sbc, .loc (.reg .a) => .sbc_A_A | .sbc, .imm n => .sbc_A_n n
  | .and, .loc (.reg .b) => .and_B | .and, .loc (.reg .c) => .and_C | .and, .loc (.reg .d) => .and_D
  | .and, .loc (.reg .e) => .and_E | .and, .loc (.reg .h) => .and_H | .and, .loc (.reg .l) => .and_L
  | .and, .loc .atHL => .and_atHL | .and, .loc (.reg .a) => .and_A | .and, .imm n => .and_n n
  | .xor, .loc (.reg .b) => .xor_B | .xor, .loc (.reg .c) => .xor_C | .xor, .loc (.reg .d) => .xor_D
  | .xor, .loc (.reg .e) => .xor_E | .xor, .loc (.reg .h) => .xor_H | .xor, .loc (.reg .l) => .xor_L
  | .xor, .loc .atHL => .xor_atHL | .xor, .loc (.reg .a) => .xor_A | .xor, .imm n => .xor_n n
  | .or, .loc (.reg .b) => .or_B | .or, .loc (.reg .c) => .or_C | .or, .loc (.reg .d) => .or_D
  | .or, .loc (.reg .e) => .or_E | .or, .loc (.reg .h) => .or_H | .or, .loc (.reg .l) => .or_L
  | .or, .loc .atHL => .or_atHL | .or, .loc (.reg .a) => .or_A | .or, .imm n => .or_n n
  | .cp, .loc (.reg .b) => .cp_B | .cp, .loc (.reg .c) => .cp_C | .cp, .loc (.reg .d) => .cp_D
  | .cp, .loc (.reg .e) => .cp_E | .cp, .loc (.reg .h) => .cp_H | .cp, .loc (.reg .l) => .cp_L
  | .cp, .loc .atHL => .cp_atHL | .cp, .loc (.reg .a) => .cp_A | .cp, .imm n => .cp_n n

/-- 8-bit INC of a register or of the byte at HL (R164, R165). -/
def Instr.incLoc : Loc8 → Instr
  | .reg .b => .inc_B | .reg .c => .inc_C | .reg .d => .inc_D | .reg .e => .inc_E | .reg .h => .inc_H
  | .reg .l => .inc_L | .atHL => .inc_atHL | .reg .a => .inc_A

/-- 8-bit DEC of a register or of the byte at HL (R166, R167). -/
def Instr.decLoc : Loc8 → Instr
  | .reg .b => .dec_B | .reg .c => .dec_C | .reg .d => .dec_D | .reg .e => .dec_E | .reg .h => .dec_H
  | .reg .l => .dec_L | .atHL => .dec_atHL | .reg .a => .dec_A

/-- `LD r,r'` (R231). -/
def Instr.ldReg : Reg8 → Reg8 → Instr
  | .b, .b => .ld_B_B | .b, .c => .ld_B_C | .b, .d => .ld_B_D | .b, .e => .ld_B_E | .b, .h => .ld_B_H
  | .b, .l => .ld_B_L | .b, .a => .ld_B_A | .c, .b => .ld_C_B | .c, .c => .ld_C_C | .c, .d => .ld_C_D
  | .c, .e => .ld_C_E | .c, .h => .ld_C_H | .c, .l => .ld_C_L | .c, .a => .ld_C_A | .d, .b => .ld_D_B
  | .d, .c => .ld_D_C | .d, .d => .ld_D_D | .d, .e => .ld_D_E | .d, .h => .ld_D_H | .d, .l => .ld_D_L
  | .d, .a => .ld_D_A | .e, .b => .ld_E_B | .e, .c => .ld_E_C | .e, .d => .ld_E_D | .e, .e => .ld_E_E
  | .e, .h => .ld_E_H | .e, .l => .ld_E_L | .e, .a => .ld_E_A | .h, .b => .ld_H_B | .h, .c => .ld_H_C
  | .h, .d => .ld_H_D | .h, .e => .ld_H_E | .h, .h => .ld_H_H | .h, .l => .ld_H_L | .h, .a => .ld_H_A
  | .l, .b => .ld_L_B | .l, .c => .ld_L_C | .l, .d => .ld_L_D | .l, .e => .ld_L_E | .l, .h => .ld_L_H
  | .l, .l => .ld_L_L | .l, .a => .ld_L_A | .a, .b => .ld_A_B | .a, .c => .ld_A_C | .a, .d => .ld_A_D
  | .a, .e => .ld_A_E | .a, .h => .ld_A_H | .a, .l => .ld_A_L | .a, .a => .ld_A_A

/-- `LD r,n` (R232). -/
def Instr.ldImm : Reg8 → Byte → Instr
  | .b, n => .ld_B_n n | .c, n => .ld_C_n n | .d, n => .ld_D_n n | .e, n => .ld_E_n n | .h, n => .ld_H_n n
  | .l, n => .ld_L_n n | .a, n => .ld_A_n n

/-- `LD r,(HL)` (R233). -/
def Instr.ldFromHL : Reg8 → Instr
  | .b => .ld_B_atHL | .c => .ld_C_atHL | .d => .ld_D_atHL | .e => .ld_E_atHL | .h => .ld_H_atHL | .l => .ld_L_atHL
  | .a => .ld_A_atHL

/-- `LD (HL),r` (R234). -/
def Instr.ldToHL : Reg8 → Instr
  | .b => .ld_atHL_B | .c => .ld_atHL_C | .d => .ld_atHL_D | .e => .ld_atHL_E | .h => .ld_atHL_H | .l => .ld_atHL_L
  | .a => .ld_atHL_A

/-- `LD rr,nn` (R270). -/
def Instr.ldPair : Pair → Word → Instr
  | .bc, nn => .ld_BC_nn nn | .de, nn => .ld_DE_nn nn | .hl, nn => .ld_HL_nn nn | .sp, nn => .ld_SP_nn nn

/-- `ADD HL,rr` (R181). -/
def Instr.addHL : Pair → Instr
  | .bc => .add_HL_BC | .de => .add_HL_DE | .hl => .add_HL_HL | .sp => .add_HL_SP

/-- `INC rr` (R182). -/
def Instr.incPair : Pair → Instr
  | .bc => .inc_BC | .de => .inc_DE | .hl => .inc_HL | .sp => .inc_SP

/-- `DEC rr` (R183). -/
def Instr.decPair : Pair → Instr
  | .bc => .dec_BC | .de => .dec_DE | .hl => .dec_HL | .sp => .dec_SP

/-- `PUSH qq` (R294). -/
def Instr.push : StackPair → Instr
  | .bc => .push_BC | .de => .push_DE | .hl => .push_HL | .af => .push_AF

/-- `POP qq` (R295). -/
def Instr.pop : StackPair → Instr
  | .bc => .pop_BC | .de => .pop_DE | .hl => .pop_HL | .af => .pop_AF

/-- `JP cc,nn` (R298). -/
def Instr.jpIf : Cond → Word → Instr
  | .nz, nn => .jp_NZ_nn nn | .z, nn => .jp_Z_nn nn | .nc, nn => .jp_NC_nn nn | .c, nn => .jp_C_nn nn

/-- `JR cc,e` (R300). -/
def Instr.jrIf : Cond → Byte → Instr
  | .nz, e => .jr_NZ_e e | .z, e => .jr_Z_e e | .nc, e => .jr_NC_e e | .c, e => .jr_C_e e

/-- `CALL cc,nn` (R303). -/
def Instr.callIf : Cond → Word → Instr
  | .nz, nn => .call_NZ_nn nn | .z, nn => .call_Z_nn nn | .nc, nn => .call_NC_nn nn | .c, nn => .call_C_nn nn

/-- `RET cc` (R306). -/
def Instr.retIf : Cond → Instr
  | .nz => .ret_NZ | .z => .ret_Z | .nc => .ret_NC | .c => .ret_C

/-- `RST t` (R307). -/
def Instr.rst : RstVec → Instr
  | .v00 => .rst_00 | .v08 => .rst_08 | .v10 => .rst_10 | .v18 => .rst_18 | .v20 => .rst_20 | .v28 => .rst_28
  | .v30 => .rst_30 | .v38 => .rst_38

/-- The accumulator rotates (R199 to R202), for the four operations that have one; the others have no such form. -/
def Instr.rotA : RotOp → Option Instr
  | .rlc => some .rlca | .rrc => some .rrca | .rl => some .rla | .rr => some .rra | .sla => none
  | .sra => none | .swap => none | .srl => none

/-- The extended rotates and shifts of a register or of the byte at HL (R203 to R218). -/
def Instr.rot : RotOp → Loc8 → Instr
  | .rlc, .reg .b => .rlc_B | .rlc, .reg .c => .rlc_C | .rlc, .reg .d => .rlc_D | .rlc, .reg .e => .rlc_E
  | .rlc, .reg .h => .rlc_H | .rlc, .reg .l => .rlc_L | .rlc, .atHL => .rlc_atHL | .rlc, .reg .a => .rlc_A
  | .rrc, .reg .b => .rrc_B | .rrc, .reg .c => .rrc_C | .rrc, .reg .d => .rrc_D | .rrc, .reg .e => .rrc_E
  | .rrc, .reg .h => .rrc_H | .rrc, .reg .l => .rrc_L | .rrc, .atHL => .rrc_atHL | .rrc, .reg .a => .rrc_A
  | .rl, .reg .b => .rl_B | .rl, .reg .c => .rl_C | .rl, .reg .d => .rl_D | .rl, .reg .e => .rl_E
  | .rl, .reg .h => .rl_H | .rl, .reg .l => .rl_L | .rl, .atHL => .rl_atHL | .rl, .reg .a => .rl_A
  | .rr, .reg .b => .rr_B | .rr, .reg .c => .rr_C | .rr, .reg .d => .rr_D | .rr, .reg .e => .rr_E
  | .rr, .reg .h => .rr_H | .rr, .reg .l => .rr_L | .rr, .atHL => .rr_atHL | .rr, .reg .a => .rr_A
  | .sla, .reg .b => .sla_B | .sla, .reg .c => .sla_C | .sla, .reg .d => .sla_D | .sla, .reg .e => .sla_E
  | .sla, .reg .h => .sla_H | .sla, .reg .l => .sla_L | .sla, .atHL => .sla_atHL | .sla, .reg .a => .sla_A
  | .sra, .reg .b => .sra_B | .sra, .reg .c => .sra_C | .sra, .reg .d => .sra_D | .sra, .reg .e => .sra_E
  | .sra, .reg .h => .sra_H | .sra, .reg .l => .sra_L | .sra, .atHL => .sra_atHL | .sra, .reg .a => .sra_A
  | .swap, .reg .b => .swap_B | .swap, .reg .c => .swap_C | .swap, .reg .d => .swap_D | .swap, .reg .e => .swap_E
  | .swap, .reg .h => .swap_H | .swap, .reg .l => .swap_L | .swap, .atHL => .swap_atHL | .swap, .reg .a => .swap_A
  | .srl, .reg .b => .srl_B | .srl, .reg .c => .srl_C | .srl, .reg .d => .srl_D | .srl, .reg .e => .srl_E
  | .srl, .reg .h => .srl_H | .srl, .reg .l => .srl_L | .srl, .atHL => .srl_atHL | .srl, .reg .a => .srl_A

/-- `BIT b,r` and `BIT b,(HL)` (R221, R222). -/
def Instr.bit : BitNo → Loc8 → Instr
  | .b0, .reg .b => .bit_0_B | .b0, .reg .c => .bit_0_C | .b0, .reg .d => .bit_0_D | .b0, .reg .e => .bit_0_E
  | .b0, .reg .h => .bit_0_H | .b0, .reg .l => .bit_0_L | .b0, .atHL => .bit_0_atHL | .b0, .reg .a => .bit_0_A
  | .b1, .reg .b => .bit_1_B | .b1, .reg .c => .bit_1_C | .b1, .reg .d => .bit_1_D | .b1, .reg .e => .bit_1_E
  | .b1, .reg .h => .bit_1_H | .b1, .reg .l => .bit_1_L | .b1, .atHL => .bit_1_atHL | .b1, .reg .a => .bit_1_A
  | .b2, .reg .b => .bit_2_B | .b2, .reg .c => .bit_2_C | .b2, .reg .d => .bit_2_D | .b2, .reg .e => .bit_2_E
  | .b2, .reg .h => .bit_2_H | .b2, .reg .l => .bit_2_L | .b2, .atHL => .bit_2_atHL | .b2, .reg .a => .bit_2_A
  | .b3, .reg .b => .bit_3_B | .b3, .reg .c => .bit_3_C | .b3, .reg .d => .bit_3_D | .b3, .reg .e => .bit_3_E
  | .b3, .reg .h => .bit_3_H | .b3, .reg .l => .bit_3_L | .b3, .atHL => .bit_3_atHL | .b3, .reg .a => .bit_3_A
  | .b4, .reg .b => .bit_4_B | .b4, .reg .c => .bit_4_C | .b4, .reg .d => .bit_4_D | .b4, .reg .e => .bit_4_E
  | .b4, .reg .h => .bit_4_H | .b4, .reg .l => .bit_4_L | .b4, .atHL => .bit_4_atHL | .b4, .reg .a => .bit_4_A
  | .b5, .reg .b => .bit_5_B | .b5, .reg .c => .bit_5_C | .b5, .reg .d => .bit_5_D | .b5, .reg .e => .bit_5_E
  | .b5, .reg .h => .bit_5_H | .b5, .reg .l => .bit_5_L | .b5, .atHL => .bit_5_atHL | .b5, .reg .a => .bit_5_A
  | .b6, .reg .b => .bit_6_B | .b6, .reg .c => .bit_6_C | .b6, .reg .d => .bit_6_D | .b6, .reg .e => .bit_6_E
  | .b6, .reg .h => .bit_6_H | .b6, .reg .l => .bit_6_L | .b6, .atHL => .bit_6_atHL | .b6, .reg .a => .bit_6_A
  | .b7, .reg .b => .bit_7_B | .b7, .reg .c => .bit_7_C | .b7, .reg .d => .bit_7_D | .b7, .reg .e => .bit_7_E
  | .b7, .reg .h => .bit_7_H | .b7, .reg .l => .bit_7_L | .b7, .atHL => .bit_7_atHL | .b7, .reg .a => .bit_7_A

/-- `RES b,r` and `RES b,(HL)` (R225, R226). -/
def Instr.res : BitNo → Loc8 → Instr
  | .b0, .reg .b => .res_0_B | .b0, .reg .c => .res_0_C | .b0, .reg .d => .res_0_D | .b0, .reg .e => .res_0_E
  | .b0, .reg .h => .res_0_H | .b0, .reg .l => .res_0_L | .b0, .atHL => .res_0_atHL | .b0, .reg .a => .res_0_A
  | .b1, .reg .b => .res_1_B | .b1, .reg .c => .res_1_C | .b1, .reg .d => .res_1_D | .b1, .reg .e => .res_1_E
  | .b1, .reg .h => .res_1_H | .b1, .reg .l => .res_1_L | .b1, .atHL => .res_1_atHL | .b1, .reg .a => .res_1_A
  | .b2, .reg .b => .res_2_B | .b2, .reg .c => .res_2_C | .b2, .reg .d => .res_2_D | .b2, .reg .e => .res_2_E
  | .b2, .reg .h => .res_2_H | .b2, .reg .l => .res_2_L | .b2, .atHL => .res_2_atHL | .b2, .reg .a => .res_2_A
  | .b3, .reg .b => .res_3_B | .b3, .reg .c => .res_3_C | .b3, .reg .d => .res_3_D | .b3, .reg .e => .res_3_E
  | .b3, .reg .h => .res_3_H | .b3, .reg .l => .res_3_L | .b3, .atHL => .res_3_atHL | .b3, .reg .a => .res_3_A
  | .b4, .reg .b => .res_4_B | .b4, .reg .c => .res_4_C | .b4, .reg .d => .res_4_D | .b4, .reg .e => .res_4_E
  | .b4, .reg .h => .res_4_H | .b4, .reg .l => .res_4_L | .b4, .atHL => .res_4_atHL | .b4, .reg .a => .res_4_A
  | .b5, .reg .b => .res_5_B | .b5, .reg .c => .res_5_C | .b5, .reg .d => .res_5_D | .b5, .reg .e => .res_5_E
  | .b5, .reg .h => .res_5_H | .b5, .reg .l => .res_5_L | .b5, .atHL => .res_5_atHL | .b5, .reg .a => .res_5_A
  | .b6, .reg .b => .res_6_B | .b6, .reg .c => .res_6_C | .b6, .reg .d => .res_6_D | .b6, .reg .e => .res_6_E
  | .b6, .reg .h => .res_6_H | .b6, .reg .l => .res_6_L | .b6, .atHL => .res_6_atHL | .b6, .reg .a => .res_6_A
  | .b7, .reg .b => .res_7_B | .b7, .reg .c => .res_7_C | .b7, .reg .d => .res_7_D | .b7, .reg .e => .res_7_E
  | .b7, .reg .h => .res_7_H | .b7, .reg .l => .res_7_L | .b7, .atHL => .res_7_atHL | .b7, .reg .a => .res_7_A

/-- `SET b,r` and `SET b,(HL)` (R223, R224). -/
def Instr.set : BitNo → Loc8 → Instr
  | .b0, .reg .b => .set_0_B | .b0, .reg .c => .set_0_C | .b0, .reg .d => .set_0_D | .b0, .reg .e => .set_0_E
  | .b0, .reg .h => .set_0_H | .b0, .reg .l => .set_0_L | .b0, .atHL => .set_0_atHL | .b0, .reg .a => .set_0_A
  | .b1, .reg .b => .set_1_B | .b1, .reg .c => .set_1_C | .b1, .reg .d => .set_1_D | .b1, .reg .e => .set_1_E
  | .b1, .reg .h => .set_1_H | .b1, .reg .l => .set_1_L | .b1, .atHL => .set_1_atHL | .b1, .reg .a => .set_1_A
  | .b2, .reg .b => .set_2_B | .b2, .reg .c => .set_2_C | .b2, .reg .d => .set_2_D | .b2, .reg .e => .set_2_E
  | .b2, .reg .h => .set_2_H | .b2, .reg .l => .set_2_L | .b2, .atHL => .set_2_atHL | .b2, .reg .a => .set_2_A
  | .b3, .reg .b => .set_3_B | .b3, .reg .c => .set_3_C | .b3, .reg .d => .set_3_D | .b3, .reg .e => .set_3_E
  | .b3, .reg .h => .set_3_H | .b3, .reg .l => .set_3_L | .b3, .atHL => .set_3_atHL | .b3, .reg .a => .set_3_A
  | .b4, .reg .b => .set_4_B | .b4, .reg .c => .set_4_C | .b4, .reg .d => .set_4_D | .b4, .reg .e => .set_4_E
  | .b4, .reg .h => .set_4_H | .b4, .reg .l => .set_4_L | .b4, .atHL => .set_4_atHL | .b4, .reg .a => .set_4_A
  | .b5, .reg .b => .set_5_B | .b5, .reg .c => .set_5_C | .b5, .reg .d => .set_5_D | .b5, .reg .e => .set_5_E
  | .b5, .reg .h => .set_5_H | .b5, .reg .l => .set_5_L | .b5, .atHL => .set_5_atHL | .b5, .reg .a => .set_5_A
  | .b6, .reg .b => .set_6_B | .b6, .reg .c => .set_6_C | .b6, .reg .d => .set_6_D | .b6, .reg .e => .set_6_E
  | .b6, .reg .h => .set_6_H | .b6, .reg .l => .set_6_L | .b6, .atHL => .set_6_atHL | .b6, .reg .a => .set_6_A
  | .b7, .reg .b => .set_7_B | .b7, .reg .c => .set_7_C | .b7, .reg .d => .set_7_D | .b7, .reg .e => .set_7_E
  | .b7, .reg .h => .set_7_H | .b7, .reg .l => .set_7_L | .b7, .atHL => .set_7_atHL | .b7, .reg .a => .set_7_A

end Sys2Proof
end

