-- ==== Sys2Proof/Machine/HostOps.lean ====
section
/-! DEFINITION. What the caller can do to the core between steps (R35, R370), what a step returns to it (R11), and the host
transition a platform may add for interrupts (R347). No step uses these. -/

namespace Sys2Proof.Machine

/-- `init` (R34, R370): every field of the core at its boot value, the registers and `IME` from the draw the caller takes.
It makes no memory access and does not touch memory. -/
def State.init (draw : ResetParams) (s : State) : State :=
  { s with
    a := draw.a, f := draw.fHigh ++ 0#4, b := draw.b, c := draw.c, d := draw.d, e := draw.e, h := draw.h, l := draw.l
    pc := 0#16, sp := draw.sp, mode := .primary, ime := draw.ime, run := .running, bus := [] }

/-- `ime_read()` (R35). -/
def State.imeRead (s : State) : Bool := s.ime

/-- `ime_clear()` (R35). -/
def State.imeClear (s : State) : State := { s with ime := false }

/-- `resume()` (R35): `run <- Running` and nothing else. -/
def State.resume (s : State) : State := { s with run := .running }

/-- The interrupt entry a platform model may define for itself (R347); it is no operation of the core. Only with `mode`
Primary and the gate open: clear the gate, push `pc`, go to the platform's vector, run. -/
def State.interruptEntry (s : State) (vector : Word) : Option State :=
  match s.mode, s.imeRead with
  | .primary, true => some ((s.imeClear.push16 s.pc).jump vector).resume
  | _, _ => none

/-- What a step returns to the caller (R11). -/
inductive StepReturn where
  | ok
  | err (error : DecodeError)
  | idle
deriving DecidableEq, Repr

/-- The outcome of the step taken in this state (R11, R107): `Idle` when the core is not running, the decode error when the
byte fetched has no entry in its table, else `Ok`. DESIGN CHOICE (log entry 14): it is `Ok` for a step that `ADMIT_GK` = false
refuses too, for which the spec names no return value: R11 gives `Ok` for an executed instruction, and R105 says only that a
refusal is not the decode error. -/
def State.stepReturn (s : State) : StepReturn :=
  match s.run with
  | .running =>
    match s.beginStep.fetchInstr.1 with
    | .unmapped op => .err { byte := op, mode := s.mode }
    | _ => .ok
  | _ => .idle

end Sys2Proof.Machine
end

