-- ==== Sys2Proof/Safety.lean ====
section
/-! DEFINITION. What counts as a safe run. -/

namespace Sys2Proof.Machine

/-- A step from this state neither faults nor refuses. -/
def State.Safe (s : State) : Prop := ∃ t, step s = .next t

/-- The first `n` steps from this state are safe. -/
def State.SafeFor (n : Nat) (s : State) : Prop := ∃ t, Host.Core.run Sys2Proof.core n s = .next t

/-- The core has executed HALT or STOP and waits for `resume()` (R31, R355). -/
def State.Idle (s : State) : Prop := s.run ≠ .running

/-- The invariant of the core: F[3:0] is zero (R23), memory is in canonical form, and Extended mode is met only while running,
between a prefix and the byte after it (R29, R377). -/
def State.Inv (s : State) : Prop :=
  s.f &&& 0x0F#8 = 0#8 ∧ s.mem.wf ∧ (s.mode = .extended → s.run = .running)

end Sys2Proof.Machine
end

