-- ==== Sys2Proof/Certificates/Slice0/Obligations.lean ====
section
/-! DEFINITION. The statements for the provers, from the numbered rules of spec/. Section 1 is the vocabulary they are written
in: the opcode fields of R92 to R98, the flag bits of R24, and what an instruction leaves alone. A statement about an
instruction says its encoding, that `exec` answers a next state, what that state holds, and what it leaves unchanged. `exec` runs in the state after the fetch
stage, so an unchanged `pc` there is `pc` past the whole instruction (R107). -/

namespace Sys2Proof.Claim

open Sys2Proof.Machine

/-! ## 1. Vocabulary -/

/-- The opcode byte with the fields `x`, `y`, `z` (R92). -/
def opcode (x y z : Nat) : Byte := BitVec.ofNat 8 (64 * x + 8 * y + z)

/-- The 3-bit register code (R93). -/
def regCode : Reg8 → Nat
  | .b => 0 | .c => 1 | .d => 2 | .e => 3 | .h => 4 | .l => 5 | .a => 7

/-- The 3-bit operand code, in which 6 is the byte at HL (R93). -/
def locCode : Loc8 → Nat
  | .reg r => regCode r
  | .atHL => 6

/-- The 2-bit pair code of the set with SP (R94). -/
def pairCode : Pair → Nat
  | .bc => 0 | .de => 1 | .hl => 2 | .sp => 3

/-- The 2-bit pair code of the set with AF (R94). -/
def stackPairCode : StackPair → Nat
  | .bc => 0 | .de => 1 | .hl => 2 | .af => 3

/-- The 2-bit condition code (R95). -/
def condCode : Cond → Nat
  | .nz => 0 | .z => 1 | .nc => 2 | .c => 3

/-- The 3-bit rotate code (R97). -/
def rotCode : RotOp → Nat
  | .rlc => 0 | .rrc => 1 | .rl => 2 | .rr => 3 | .sla => 4 | .sra => 5 | .swap => 6 | .srl => 7

/-- The bit number (R98, R220). -/
def bitCode : BitNo → Nat
  | .b0 => 0 | .b1 => 1 | .b2 => 2 | .b3 => 3 | .b4 => 4 | .b5 => 5 | .b6 => 6 | .b7 => 7

/-- Field `y` of an RST: its vector is `8 * y` (R98). -/
def rstCode : RstVec → Nat
  | .v00 => 0 | .v08 => 1 | .v10 => 2 | .v18 => 3 | .v20 => 4 | .v28 => 5 | .v30 => 6 | .v38 => 7

/-- The encoding of an instruction: in the table of mode `m` the byte `op` has `n` operand bytes and stands for `i lo hi`,
`lo` and `hi` being the first and the second of them. -/
def Encoded (m : DecodeMode) (op : Byte) (n : Nat) (i : Byte → Byte → Instr) : Prop :=
  operandCount m op = n ∧ ∀ lo hi, decodeOp m op lo hi = i lo hi

/-- Flag Z of a state: F[7] (R24). -/
def zf (s : State) : Bool := s.f.getLsbD 7
/-- Flag N of a state: F[6] (R24). -/
def nf (s : State) : Bool := s.f.getLsbD 6
/-- Flag H of a state: F[5] (R24). -/
def hf (s : State) : Bool := s.f.getLsbD 5
/-- Flag C of a state: F[4] (R24). -/
def cf (s : State) : Bool := s.f.getLsbD 4

/-- The flags are these, and F[3:0] is zero (R23, R24). -/
def FlagsAre (z n h c : Bool) (t : State) : Prop := zf t = z ∧ nf t = n ∧ hf t = h ∧ cf t = c ∧ t.f &&& 0x0F#8 = 0#8

/-- Every register code 0 to 5 and 7 selects is unchanged but for those listed; so are `mode`, `IME`, `run` and the
parameters. -/
def Keeps (changed : List Reg8) (s t : State) : Prop :=
  (∀ r, r ∉ changed → t.reg r = s.reg r) ∧ t.mode = s.mode ∧ t.ime = s.ime ∧ t.run = s.run ∧ t.params = s.params

/-- `pc` and `sp` are unchanged. -/
def KeepsPointers (s t : State) : Prop := t.pc = s.pc ∧ t.sp = s.sp

/-- Every byte of memory outside the cells listed is unchanged, and each cell listed reads as the byte beside it (on memory
in canonical form, which every step keeps). With no cells: memory is unchanged. -/
def Stores (cells : List (Word × Byte)) (s t : State) : Prop :=
  (∀ a, a ∉ cells.map Prod.fst → t.byteAt a = s.byteAt a) ∧ (s.mem.wf → ∀ c ∈ cells, t.byteAt c.1 = c.2)

/-- Whether a call of the memory interface is a read. -/
def isRead : Access → Bool
  | .read _ _ => true
  | .write _ _ => false

/-- The memory interface was called exactly so, in this order (R65). An oracle memory counts the reads (log entry 4). -/
def Made (calls : List Access) (s t : State) : Prop :=
  t.bus = s.bus ++ calls ∧
  t.busReads = match s.params.memory with
    | .ram => s.busReads
    | .oracle => s.busReads + (calls.filter isRead).length

/-- Nothing but the listed registers and F may have changed, and the interface was called as listed. -/
def OnlyRegisters (changed : List Reg8) (calls : List Access) (s t : State) : Prop :=
  Keeps changed s t ∧ KeepsPointers s t ∧ Stores [] s t ∧ Made calls s t

/-- The byte that an operand of a 3-bit code gives (R93). -/
def locByte (x : Loc8) (s : State) : Byte :=
  match x with
  | .reg r => s.reg r
  | .atHL => s.upcoming 0 s.hl

/-- The reads that an operand of a 3-bit code takes (R93). -/
def locReads (x : Loc8) (s : State) : List Access :=
  match x with
  | .reg _ => []
  | .atHL => [.read s.hl (s.upcoming 0 s.hl)]

/-- The byte the source operand of an accumulator operation gives (R130). -/
def srcByte (x : Src8) (s : State) : Byte :=
  match x with
  | .loc y => locByte y s
  | .imm n => n

/-- The reads it takes (R130). -/
def srcReads (x : Src8) (s : State) : List Access :=
  match x with
  | .loc y => locReads y s
  | .imm _ => []

/-- The operand of a 3-bit code is read and overwritten with `v`: a register, or the byte at HL by one read and one write.
Nothing else but F may have changed. -/
def Rewrites (x : Loc8) (v : Byte) (s t : State) : Prop :=
  match x with
  | .reg r => t.reg r = v ∧ OnlyRegisters [r] [] s t
  | .atHL =>
    Keeps [] s t ∧ KeepsPointers s t ∧ Stores [(s.hl, v)] s t ∧
    Made [.read s.hl (s.upcoming 0 s.hl), .write s.hl v] s t

/-- The opcode bytes and the immediate byte of an accumulator operation with code `y` (R96, R130). -/
def EncodedAlu (op : AluOp) (y : Nat) : Prop :=
  (∀ x, Encoded .primary (opcode 2 y (locCode x)) 0 fun _ _ => Instr.alu op (.loc x)) ∧
  Encoded .primary (opcode 3 y 6) 1 fun n _ => Instr.alu op (.imm n)

/-- What condition `cc` tests (R297). -/
def condTrue (cc : Cond) (s : State) : Bool :=
  match cc with
  | .nz => !zf s
  | .z => zf s
  | .nc => !cf s
  | .c => cf s

/-- The word on top of the stack: its low byte at `sp`, its high byte at `sp + 1`, read in that order (R293). -/
def topWord (s : State) : Word := wordOf (s.upcoming 1 (s.sp + 1#16)) (s.upcoming 0 s.sp)

/-- The two reads of a pop (R293). -/
def popReads (s : State) : List Access :=
  [.read s.sp (s.upcoming 0 s.sp), .read (s.sp + 1#16) (s.upcoming 1 (s.sp + 1#16))]

/-- The word `w` was pushed (R291): high byte at `sp - 1`, then low byte at `sp - 2`, and `sp` two lower. -/
def Pushed (w : Word) (s t : State) : Prop :=
  t.sp = s.sp - 2#16 ∧ Stores [(s.sp - 1#16, hiByte w), (s.sp - 2#16, loByte w)] s t ∧
  Made [.write (s.sp - 1#16) (hiByte w), .write (s.sp - 2#16) (loByte w)] s t

/-- A word was popped (R293): two reads, memory as it was, and `sp` two higher. -/
def Popped (s t : State) : Prop := t.sp = s.sp + 2#16 ∧ Stores [] s t ∧ Made (popReads s) s t

/-- The signed value of an offset byte, 16 bits wide (R7): the byte, or the byte plus 0xFF00 when its bit 7 is set. -/
def signed16 (e : Byte) : Word := if e.toNat < 128 then BitVec.ofNat 16 e.toNat else BitVec.ofNat 16 (e.toNat + 0xFF00)

/-- A call to `target` (R302): `pc`, the address after the call, is pushed. F and every register are unchanged. -/
def Calls (target : Word) (s t : State) : Prop := t.pc = target ∧ Pushed s.pc s t ∧ Keeps [] s t ∧ t.f = s.f

/-- A return (R304): `pc` from the top of the stack. F and every register are unchanged. -/
def Returns (s t : State) : Prop := t.pc = topWord s ∧ Popped s t ∧ Keeps [] s t ∧ t.f = s.f

/-- The opcode byte the next step fetches. -/
def nextOp (s : State) : Byte := s.upcoming 0 s.pc

/-- The reads of a fetch stage of `n` bytes (R107). -/
def fetchReads (s : State) (n : Nat) : List Access :=
  (List.range n).map fun k => .read (s.pc + BitVec.ofNat 16 k) (s.upcoming k (s.pc + BitVec.ofNat 16 k))

/-- The state after a fetch stage of `n` bytes (R107): `pc` past them, the mode Primary, nothing else changed. -/
def fetched (s : State) (n : Nat) : State :=
  { s with
    pc := s.pc + BitVec.ofNat 16 n
    mode := .primary
    bus := fetchReads s n
    busReads := match s.params.memory with
      | .ram => s.busReads
      | .oracle => s.busReads + n }

/-- The eleven primary bytes with no table entry, as R104 lists them. -/
def unmappedBytes : List Byte :=
  [0xD3#8, 0xDB#8, 0xDD#8, 0xE3#8, 0xE4#8, 0xEB#8, 0xEC#8, 0xED#8, 0xF4#8, 0xFC#8, 0xFD#8]

/-- The sixteen primary bytes that `ADMIT_GK = false` refuses, as R105 lists them. -/
def generalKnowledgeBytes : List Byte :=
  [0x00#8, 0x10#8, 0x76#8, 0x27#8, 0x2F#8, 0x37#8, 0x3F#8, 0x03#8, 0x13#8, 0x23#8, 0x33#8, 0x0B#8, 0x1B#8, 0x2B#8, 0x3B#8,
    0xE8#8]

end Sys2Proof.Claim

section

open Sys2Proof Sys2Proof.Machine Sys2Proof.Claim

/-! ## 2. 8-bit arithmetic and logic -/

/-- R131, R140, R141, R142: `ADD A,s` for a register, the byte at HL and an immediate. -/
def Obligations.AddAssignsSumAndCarries : Prop :=
  EncodedAlu .add 0 ∧
  ∀ x s, ∃ t, exec (Instr.alu .add x) s = .next t ∧
    t.a.toNat = (s.a.toNat + (srcByte x s).toNat) % 256 ∧
    FlagsAre (t.a == 0#8) false (decide (0x0F < s.a.toNat % 16 + (srcByte x s).toNat % 16))
      (decide (0xFF < s.a.toNat + (srcByte x s).toNat)) t ∧
    OnlyRegisters [.a] (srcReads x s) s t

/-- R132, R143, R144, R145: `ADC A,s` adds the old flag C, which takes part in H and C. That the incoming carry takes part
in H and C is an inference the spec marks in R132. -/
def Obligations.AdcAssignsSumAndCarries : Prop :=
  EncodedAlu .adc 1 ∧
  ∀ x s, ∃ t, exec (Instr.alu .adc x) s = .next t ∧
    t.a.toNat = (s.a.toNat + (srcByte x s).toNat + (cf s).toNat) % 256 ∧
    FlagsAre (t.a == 0#8) false (decide (0x0F < s.a.toNat % 16 + (srcByte x s).toNat % 16 + (cf s).toNat))
      (decide (0xFF < s.a.toNat + (srcByte x s).toNat + (cf s).toNat)) t ∧
    OnlyRegisters [.a] (srcReads x s) s t

/-- R133, R146, R147, R148: `SUB s`. -/
def Obligations.SubAssignsDifferenceAndBorrows : Prop :=
  EncodedAlu .sub 2 ∧
  ∀ x s, ∃ t, exec (Instr.alu .sub x) s = .next t ∧
    (t.a.toNat : Int) = ((s.a.toNat : Int) - (srcByte x s).toNat) % 256 ∧
    FlagsAre (t.a == 0#8) true (decide (s.a.toNat % 16 < (srcByte x s).toNat % 16))
      (decide (s.a.toNat < (srcByte x s).toNat)) t ∧
    OnlyRegisters [.a] (srcReads x s) s t

/-- R134, R149, R150, R151: `SBC A,s` subtracts the old flag C as well, which takes part in H and C. -/
def Obligations.SbcAssignsDifferenceAndBorrows : Prop :=
  EncodedAlu .sbc 3 ∧
  ∀ x s, ∃ t, exec (Instr.alu .sbc x) s = .next t ∧
    (t.a.toNat : Int) = ((s.a.toNat : Int) - (srcByte x s).toNat - (cf s).toNat) % 256 ∧
    FlagsAre (t.a == 0#8) true (decide (s.a.toNat % 16 < (srcByte x s).toNat % 16 + (cf s).toNat))
      (decide (s.a.toNat < (srcByte x s).toNat + (cf s).toNat)) t ∧
    OnlyRegisters [.a] (srcReads x s) s t

/-- R135 to R137, R152 to R160: `AND s`, `XOR s`, `OR s`. -/
def Obligations.LogicAssignsResultAndFlags : Prop :=
  EncodedAlu .and 4 ∧ EncodedAlu .xor 5 ∧ EncodedAlu .or 6 ∧
  ∀ x s,
    (∃ t, exec (Instr.alu .and x) s = .next t ∧ t.a = s.a &&& srcByte x s ∧
      FlagsAre (t.a == 0#8) false true false t ∧ OnlyRegisters [.a] (srcReads x s) s t) ∧
    (∃ t, exec (Instr.alu .xor x) s = .next t ∧ t.a = s.a ^^^ srcByte x s ∧
      FlagsAre (t.a == 0#8) false false false t ∧ OnlyRegisters [.a] (srcReads x s) s t) ∧
    (∃ t, exec (Instr.alu .or x) s = .next t ∧ t.a = s.a ||| srcByte x s ∧
      FlagsAre (t.a == 0#8) false false false t ∧ OnlyRegisters [.a] (srcReads x s) s t)

/-- R138, R161, R162, R163: `CP s` assigns the flags of SUB and writes no register. Z is "true iff `A = v`". -/
def Obligations.CpComparesAndKeepsA : Prop :=
  EncodedAlu .cp 7 ∧
  ∀ x s, ∃ t, exec (Instr.alu .cp x) s = .next t ∧
    FlagsAre (decide (s.a = srcByte x s)) true (decide (s.a.toNat % 16 < (srcByte x s).toNat % 16))
      (decide (s.a.toNat < (srcByte x s).toNat)) t ∧
    OnlyRegisters [] (srcReads x s) s t

/-- R164, R165: 8-bit INC keeps flag C. -/
def Obligations.IncAddsOneAndKeepsCarry : Prop :=
  (∀ x, Encoded .primary (opcode 0 (locCode x) 4) 0 fun _ _ => Instr.incLoc x) ∧
  ∀ x s, ∃ t, exec (Instr.incLoc x) s = .next t ∧
    Rewrites x (BitVec.ofNat 8 ((locByte x s).toNat + 1)) s t ∧
    FlagsAre (decide ((locByte x s).toNat = 0xFF)) false (decide ((locByte x s).toNat % 16 = 0x0F)) (cf s) t

/-- R166, R167: 8-bit DEC keeps flag C. -/
def Obligations.DecSubtractsOneAndKeepsCarry : Prop :=
  (∀ x, Encoded .primary (opcode 0 (locCode x) 5) 0 fun _ _ => Instr.decLoc x) ∧
  ∀ x s, ∃ t, exec (Instr.decLoc x) s = .next t ∧
    Rewrites x (BitVec.ofNat 8 ((locByte x s).toNat + 255)) s t ∧
    FlagsAre (decide ((locByte x s).toNat = 1)) true (decide ((locByte x s).toNat % 16 = 0)) (cf s) t

/-- R168: DAA, as its pseudocode says it. -/
def Obligations.DaaAdjustsAsThePseudocodeSays : Prop :=
  Encoded .primary 0x27#8 0 (fun _ _ => .daa) ∧
  ∀ s, s.params.admitGK = true → ∃ t, exec .daa s = .next t ∧
    (if nf s then
      (t.a.toNat : Int) = ((s.a.toNat : Int) - (if hf s then 6 else 0) - (if cf s then 0x60 else 0)) % 256 ∧
      FlagsAre (t.a == 0#8) true false (cf s) t
    else
      t.a.toNat = (s.a.toNat + (if hf s || decide (9 < s.a.toNat % 16) then 6 else 0) +
        (if cf s || decide (0x99 < s.a.toNat) then 0x60 else 0)) % 256 ∧
      FlagsAre (t.a == 0#8) false false (cf s || decide (0x99 < s.a.toNat)) t) ∧
    OnlyRegisters [.a] [] s t

/-- Derived from R131 to R134 and R168 ("decimal adjust of A after an addition or subtraction of packed BCD bytes"): with A
and the immediate two packed decimal numbers below 100, ADC then DAA leaves the decimal sum, with C its hundreds digit, and SBC
then DAA leaves the decimal difference modulo 100, with C the borrow. -/
def Obligations.DaaGivesDecimalArithmetic : Prop :=
  ∀ (s : State) (p q : Nat), p < 100 → q < 100 → s.params.admitGK = true →
    s.a = BitVec.ofNat 8 (p / 10 * 16 + p % 10) →
    (∃ t u, exec (.adc_A_n (BitVec.ofNat 8 (q / 10 * 16 + q % 10))) s = .next t ∧ exec .daa t = .next u ∧
      u.a.toNat = (p + q + (cf s).toNat) % 100 / 10 * 16 + (p + q + (cf s).toNat) % 10 ∧
      cf u = decide (100 ≤ p + q + (cf s).toNat)) ∧
    (∃ t u, exec (.sbc_A_n (BitVec.ofNat 8 (q / 10 * 16 + q % 10))) s = .next t ∧ exec .daa t = .next u ∧
      u.a.toNat = (p + 100 - q - (cf s).toNat) % 100 / 10 * 16 + (p + 100 - q - (cf s).toNat) % 10 ∧
      cf u = decide (p < q + (cf s).toNat))

/-- R169, R170, R171: CPL, SCF, CCF. -/
def Obligations.CplScfCcfAssignTheirFlags : Prop :=
  Encoded .primary 0x2F#8 0 (fun _ _ => .cpl) ∧ Encoded .primary 0x37#8 0 (fun _ _ => .scf) ∧
  Encoded .primary 0x3F#8 0 (fun _ _ => .ccf) ∧
  ∀ s, s.params.admitGK = true →
    (∃ t, exec .cpl s = .next t ∧ t.a.toNat = 255 - s.a.toNat ∧ FlagsAre (zf s) true true (cf s) t ∧
      OnlyRegisters [.a] [] s t) ∧
    (∃ t, exec .scf s = .next t ∧ FlagsAre (zf s) false false true t ∧ OnlyRegisters [] [] s t) ∧
    (∃ t, exec .ccf s = .next t ∧ FlagsAre (zf s) false false (!cf s) t ∧ OnlyRegisters [] [] s t)

/-! ## 3. 16-bit arithmetic -/

/-- R181: `ADD HL,rr`; flag Z is assigned from the result, or unchanged under `HW_FLAG_COMPAT`. Flag Z is the spec's
decision D12. -/
def Obligations.AddHlAssignsSumAndCarries : Prop :=
  (∀ p, Encoded .primary (opcode 0 (2 * pairCode p + 1) 1) 0 fun _ _ => Instr.addHL p) ∧
  ∀ p s, ∃ t, exec (Instr.addHL p) s = .next t ∧
    t.hl.toNat = (s.hl.toNat + (s.pair p).toNat) % 65536 ∧
    FlagsAre (if s.params.hwFlagCompat then zf s else t.hl == 0#16) false
      (decide (0x0FFF < s.hl.toNat % 0x1000 + (s.pair p).toNat % 0x1000))
      (decide (0xFFFF < s.hl.toNat + (s.pair p).toNat)) t ∧
    OnlyRegisters [.h, .l] [] s t

/-- R182, R183: `INC rr` and `DEC rr` change no flag and wrap modulo 65536. -/
def Obligations.IncDecPairKeepFlags : Prop :=
  (∀ p, Encoded .primary (opcode 0 (2 * pairCode p) 3) 0 fun _ _ => Instr.incPair p) ∧
  (∀ p, Encoded .primary (opcode 0 (2 * pairCode p + 1) 3) 0 fun _ _ => Instr.decPair p) ∧
  ∀ p s, s.params.admitGK = true →
    (∃ t, exec (Instr.incPair p) s = .next t ∧ (t.pair p).toNat = ((s.pair p).toNat + 1) % 65536 ∧
      (∀ p', p' ≠ p → t.pair p' = s.pair p') ∧ t.a = s.a ∧ t.f = s.f ∧ t.pc = s.pc ∧ t.mode = s.mode ∧ t.ime = s.ime ∧
      t.run = s.run ∧ t.params = s.params ∧ Stores [] s t ∧ Made [] s t) ∧
    (∃ t, exec (Instr.decPair p) s = .next t ∧ (t.pair p).toNat = ((s.pair p).toNat + 65535) % 65536 ∧
      (∀ p', p' ≠ p → t.pair p' = s.pair p') ∧ t.a = s.a ∧ t.f = s.f ∧ t.pc = s.pc ∧ t.mode = s.mode ∧ t.ime = s.ime ∧
      t.run = s.run ∧ t.params = s.params ∧ Stores [] s t ∧ Made [] s t)

/-- R184, R273: `ADD SP,e` and `LD HL,SP+e`, the one load that writes flags: the offset is signed, and H and C are the
carries of the unsigned addition of the low byte of `sp` and the operand byte. The flags are the spec's decision D27. -/
def Obligations.StackPointerPlusSignedOffset : Prop :=
  Encoded .primary 0xE8#8 1 (fun e _ => .add_SP_e e) ∧ Encoded .primary 0xF8#8 1 (fun e _ => .ld_HL_SPe e) ∧
  ∀ e s,
    (s.params.admitGK = true → ∃ t, exec (.add_SP_e e) s = .next t ∧ t.sp = s.sp + signed16 e ∧
      FlagsAre false false (decide (0x0F < s.sp.toNat % 16 + e.toNat % 16)) (decide (0xFF < s.sp.toNat % 256 + e.toNat)) t ∧
      t.pc = s.pc ∧ Keeps [] s t ∧ Stores [] s t ∧ Made [] s t) ∧
    (∃ t, exec (.ld_HL_SPe e) s = .next t ∧ t.hl = s.sp + signed16 e ∧
      FlagsAre false false (decide (0x0F < s.sp.toNat % 16 + e.toNat % 16)) (decide (0xFF < s.sp.toNat % 256 + e.toNat)) t ∧
      OnlyRegisters [.h, .l] [] s t)

/-! ## 4. Rotates, shifts, SWAP -/

/-- The byte `n` reduced modulo 256 is what the operand becomes, with flag C as given and Z, N, H as R198 says. -/
def Sys2Proof.Claim.RotatesTo (op : RotOp) (x : Loc8) (n : Nat) (c : Bool) (s : State) : Prop :=
  ∃ t, exec (Instr.rot op x) s = .next t ∧ Rewrites x (BitVec.ofNat 8 n) s t ∧
    FlagsAre (BitVec.ofNat 8 n == 0#8) false false c t

/-- A becomes the byte `n`, with flag C as given, N and H false, and Z from the result, or false under `HW_FLAG_COMPAT`
(R198). -/
def Sys2Proof.Claim.RotatesATo (i : Instr) (n : Nat) (c : Bool) (s : State) : Prop :=
  ∃ t, exec i s = .next t ∧ t.a = BitVec.ofNat 8 n ∧
    FlagsAre (if s.params.hwFlagCompat then false else t.a == 0#8) false false c t ∧ OnlyRegisters [.a] [] s t

/-- R199, R200, R201, R202: RLCA, RRCA, RLA, RRA. Flag Z is the spec's decision D13. -/
def Obligations.AccumulatorRotates : Prop :=
  Encoded .primary 0x07#8 0 (fun _ _ => .rlca) ∧ Encoded .primary 0x0F#8 0 (fun _ _ => .rrca) ∧
  Encoded .primary 0x17#8 0 (fun _ _ => .rla) ∧ Encoded .primary 0x1F#8 0 (fun _ _ => .rra) ∧
  ∀ s,
    RotatesATo .rlca (s.a.toNat * 2 + s.a.toNat / 128) (s.a.getLsbD 7) s ∧
    RotatesATo .rrca (s.a.toNat / 2 + s.a.toNat % 2 * 128) (s.a.getLsbD 0) s ∧
    RotatesATo .rla (s.a.toNat * 2 + (cf s).toNat) (s.a.getLsbD 7) s ∧
    RotatesATo .rra (s.a.toNat / 2 + (cf s).toNat * 128) (s.a.getLsbD 0) s

/-- R190 to R193, R203 to R210: RLC and RRC, in which the bit that leaves wraps round and goes to flag C; RL and RR, in which
the old flag C enters and the bit that leaves goes to flag C. -/
def Obligations.Rotates : Prop :=
  (∀ x, Encoded .extended (opcode 0 0 (locCode x)) 0 fun _ _ => Instr.rot .rlc x) ∧
  (∀ x, Encoded .extended (opcode 0 1 (locCode x)) 0 fun _ _ => Instr.rot .rrc x) ∧
  (∀ x, Encoded .extended (opcode 0 2 (locCode x)) 0 fun _ _ => Instr.rot .rl x) ∧
  (∀ x, Encoded .extended (opcode 0 3 (locCode x)) 0 fun _ _ => Instr.rot .rr x) ∧
  ∀ x s,
    RotatesTo .rlc x ((locByte x s).toNat * 2 + (locByte x s).toNat / 128) ((locByte x s).getLsbD 7) s ∧
    RotatesTo .rrc x ((locByte x s).toNat / 2 + (locByte x s).toNat % 2 * 128) ((locByte x s).getLsbD 0) s ∧
    RotatesTo .rl x ((locByte x s).toNat * 2 + (cf s).toNat) ((locByte x s).getLsbD 7) s ∧
    RotatesTo .rr x ((locByte x s).toNat / 2 + (cf s).toNat * 128) ((locByte x s).getLsbD 0) s

/-- R194, R195, R197, R211 to R214, R217, R218: SLA, SRA, SRL. That SRA keeps bit 7 is the spec's decision D14. -/
def Obligations.Shifts : Prop :=
  (∀ x, Encoded .extended (opcode 0 4 (locCode x)) 0 fun _ _ => Instr.rot .sla x) ∧
  (∀ x, Encoded .extended (opcode 0 5 (locCode x)) 0 fun _ _ => Instr.rot .sra x) ∧
  (∀ x, Encoded .extended (opcode 0 7 (locCode x)) 0 fun _ _ => Instr.rot .srl x) ∧
  ∀ x s,
    RotatesTo .sla x ((locByte x s).toNat * 2) ((locByte x s).getLsbD 7) s ∧
    RotatesTo .sra x ((locByte x s).toNat / 2 + (locByte x s).toNat / 128 * 128) ((locByte x s).getLsbD 0) s ∧
    RotatesTo .srl x ((locByte x s).toNat / 2) ((locByte x s).getLsbD 0) s

/-- R196, R215, R216: SWAP exchanges the nibbles and clears flag C. What SWAP computes is the spec's decision D14. -/
def Obligations.SwapExchangesNibbles : Prop :=
  (∀ x, Encoded .extended (opcode 0 6 (locCode x)) 0 fun _ _ => Instr.rot .swap x) ∧
  ∀ x s, RotatesTo .swap x ((locByte x s).toNat % 16 * 16 + (locByte x s).toNat / 16) false s

/-! ## 5. Bit operations -/

/-- R221, R222: BIT sets Z when the tested bit is 0 and writes nothing. -/
def Obligations.BitTestsOneBit : Prop :=
  (∀ b x, Encoded .extended (opcode 1 (bitCode b) (locCode x)) 0 fun _ _ => Instr.bit b x) ∧
  ∀ b x s, ∃ t, exec (Instr.bit b x) s = .next t ∧
    FlagsAre (decide ((locByte x s).toNat / 2 ^ bitCode b % 2 = 0)) false true (cf s) t ∧
    OnlyRegisters [] (locReads x s) s t

/-- R223, R224, R225, R226: SET and RES change one bit of the operand and no flag; the byte at HL is read, then written. -/
def Obligations.SetAndResChangeOneBit : Prop :=
  (∀ b x, Encoded .extended (opcode 3 (bitCode b) (locCode x)) 0 fun _ _ => Instr.set b x) ∧
  (∀ b x, Encoded .extended (opcode 2 (bitCode b) (locCode x)) 0 fun _ _ => Instr.res b x) ∧
  ∀ b x s,
    (∃ t v, exec (Instr.set b x) s = .next t ∧ Rewrites x v s t ∧ t.f = s.f ∧ v.getLsbD (bitCode b) = true ∧
      ∀ k, k ≠ bitCode b → v.getLsbD k = (locByte x s).getLsbD k) ∧
    (∃ t v, exec (Instr.res b x) s = .next t ∧ Rewrites x v s t ∧ t.f = s.f ∧ v.getLsbD (bitCode b) = false ∧
      ∀ k, k ≠ bitCode b → v.getLsbD k = (locByte x s).getLsbD k)

/-! ## 6. 8-bit loads -/

/-- R231, R232, R233: a register is loaded from a register, an immediate, or the byte at the old HL; no flag changes. -/
def Obligations.RegisterLoads : Prop :=
  (∀ r r', Encoded .primary (opcode 1 (regCode r) (regCode r')) 0 fun _ _ => Instr.ldReg r r') ∧
  (∀ r, Encoded .primary (opcode 0 (regCode r) 6) 1 fun n _ => Instr.ldImm r n) ∧
  (∀ r, Encoded .primary (opcode 1 (regCode r) 6) 0 fun _ _ => Instr.ldFromHL r) ∧
  ∀ r s,
    (∀ r', ∃ t, exec (Instr.ldReg r r') s = .next t ∧ t.reg r = s.reg r' ∧ t.f = s.f ∧ OnlyRegisters [r] [] s t) ∧
    (∀ n, ∃ t, exec (Instr.ldImm r n) s = .next t ∧ t.reg r = n ∧ t.f = s.f ∧ OnlyRegisters [r] [] s t) ∧
    (∃ t, exec (Instr.ldFromHL r) s = .next t ∧ t.reg r = s.upcoming 0 s.hl ∧ t.f = s.f ∧
      OnlyRegisters [r] [.read s.hl (s.upcoming 0 s.hl)] s t)

/-- `v` is stored at `addr` by one write and nothing else changes. -/
def Sys2Proof.Claim.StoresOne (i : Instr) (addr : Word) (v : Byte) (s : State) : Prop :=
  ∃ t, exec i s = .next t ∧ Stores [(addr, v)] s t ∧ Made [.write addr v] s t ∧ t.f = s.f ∧ Keeps [] s t ∧ KeepsPointers s t

/-- A is loaded from `addr` by one read and nothing else changes. -/
def Sys2Proof.Claim.LoadsA (i : Instr) (addr : Word) (s : State) : Prop :=
  ∃ t, exec i s = .next t ∧ t.a = s.upcoming 0 addr ∧ t.f = s.f ∧ OnlyRegisters [.a] [.read addr (s.upcoming 0 addr)] s t

/-- R234, R235: a register or an immediate is stored at HL. -/
def Obligations.StoresAtHl : Prop :=
  (∀ r, Encoded .primary (opcode 1 6 (regCode r)) 0 fun _ _ => Instr.ldToHL r) ∧
  Encoded .primary 0x36#8 1 (fun n _ => .ld_atHL_n n) ∧
  ∀ s, (∀ r, StoresOne (Instr.ldToHL r) s.hl (s.reg r) s) ∧ ∀ n, StoresOne (.ld_atHL_n n) s.hl n s

/-- R236 to R245: A is loaded from and stored at (BC), (DE), the high page, and an absolute address. -/
def Obligations.AccumulatorLoadsAndStores : Prop :=
  Encoded .primary 0x0A#8 0 (fun _ _ => .ld_A_atBC) ∧ Encoded .primary 0x1A#8 0 (fun _ _ => .ld_A_atDE) ∧
  Encoded .primary 0xF0#8 1 (fun n _ => .ldh_A_atN n) ∧ Encoded .primary 0xF2#8 0 (fun _ _ => .ld_A_atC) ∧
  Encoded .primary 0xFA#8 2 (fun lo hi => .ld_A_atNN (wordOf hi lo)) ∧
  Encoded .primary 0x02#8 0 (fun _ _ => .ld_atBC_A) ∧ Encoded .primary 0x12#8 0 (fun _ _ => .ld_atDE_A) ∧
  Encoded .primary 0xE0#8 1 (fun n _ => .ldh_atN_A n) ∧ Encoded .primary 0xE2#8 0 (fun _ _ => .ld_atC_A) ∧
  Encoded .primary 0xEA#8 2 (fun lo hi => .ld_atNN_A (wordOf hi lo)) ∧
  ∀ s,
    LoadsA .ld_A_atBC (wordOf s.b s.c) s ∧ LoadsA .ld_A_atDE (wordOf s.d s.e) s ∧
    (∀ n, LoadsA (.ldh_A_atN n) (BitVec.ofNat 16 (0xFF00 + n.toNat)) s) ∧
    LoadsA .ld_A_atC (BitVec.ofNat 16 (0xFF00 + s.c.toNat)) s ∧
    (∀ nn, LoadsA (.ld_A_atNN nn) nn s) ∧
    StoresOne .ld_atBC_A (wordOf s.b s.c) s.a s ∧ StoresOne .ld_atDE_A (wordOf s.d s.e) s.a s ∧
    (∀ n, StoresOne (.ldh_atN_A n) (BitVec.ofNat 16 (0xFF00 + n.toNat)) s.a s) ∧
    StoresOne .ld_atC_A (BitVec.ofNat 16 (0xFF00 + s.c.toNat)) s.a s ∧
    ∀ nn, StoresOne (.ld_atNN_A nn) nn s.a s

/-- R246, R247, R248, R249: the access is at the old HL; HL then goes up or down by one, modulo 65536. -/
def Obligations.PostIncrementAndDecrement : Prop :=
  Encoded .primary 0x22#8 0 (fun _ _ => .ld_atHLinc_A) ∧ Encoded .primary 0x2A#8 0 (fun _ _ => .ld_A_atHLinc) ∧
  Encoded .primary 0x32#8 0 (fun _ _ => .ld_atHLdec_A) ∧ Encoded .primary 0x3A#8 0 (fun _ _ => .ld_A_atHLdec) ∧
  ∀ s,
    (∃ t, exec .ld_atHLinc_A s = .next t ∧ t.hl.toNat = (s.hl.toNat + 1) % 65536 ∧ Stores [(s.hl, s.a)] s t ∧
      Made [.write s.hl s.a] s t ∧ t.f = s.f ∧ Keeps [.h, .l] s t ∧ KeepsPointers s t) ∧
    (∃ t, exec .ld_A_atHLinc s = .next t ∧ t.hl.toNat = (s.hl.toNat + 1) % 65536 ∧ t.a = s.upcoming 0 s.hl ∧ t.f = s.f ∧
      OnlyRegisters [.a, .h, .l] [.read s.hl (s.upcoming 0 s.hl)] s t) ∧
    (∃ t, exec .ld_atHLdec_A s = .next t ∧ t.hl.toNat = (s.hl.toNat + 65535) % 65536 ∧ Stores [(s.hl, s.a)] s t ∧
      Made [.write s.hl s.a] s t ∧ t.f = s.f ∧ Keeps [.h, .l] s t ∧ KeepsPointers s t) ∧
    (∃ t, exec .ld_A_atHLdec s = .next t ∧ t.hl.toNat = (s.hl.toNat + 65535) % 65536 ∧ t.a = s.upcoming 0 s.hl ∧
      t.f = s.f ∧ OnlyRegisters [.a, .h, .l] [.read s.hl (s.upcoming 0 s.hl)] s t)

/-! ## 7. 16-bit loads -/

/-- R270, R271, R272: `LD rr,nn` writes both halves at once; `LD (nn),SP` stores the low byte at `nn`, then the high byte
at `nn + 1`, which wraps; `LD SP,HL`. The order of the two writes is the spec's decision D16. -/
def Obligations.SixteenBitLoads : Prop :=
  (∀ p, Encoded .primary (opcode 0 (2 * pairCode p) 1) 2 fun lo hi => Instr.ldPair p (wordOf hi lo)) ∧
  Encoded .primary 0x08#8 2 (fun lo hi => .ld_atNN_SP (wordOf hi lo)) ∧
  Encoded .primary 0xF9#8 0 (fun _ _ => .ld_SP_HL) ∧
  ∀ s,
    (∀ p nn, ∃ t, exec (Instr.ldPair p nn) s = .next t ∧ t.pair p = nn ∧ (∀ p', p' ≠ p → t.pair p' = s.pair p') ∧
      t.a = s.a ∧ t.f = s.f ∧ t.pc = s.pc ∧ t.mode = s.mode ∧ t.ime = s.ime ∧ t.run = s.run ∧ t.params = s.params ∧
      Stores [] s t ∧ Made [] s t) ∧
    (∀ nn, ∃ t, exec (.ld_atNN_SP nn) s = .next t ∧
      Stores [(nn, loByte s.sp), (nn + 1#16, hiByte s.sp)] s t ∧
      Made [.write nn (loByte s.sp), .write (nn + 1#16) (hiByte s.sp)] s t ∧
      t.f = s.f ∧ Keeps [] s t ∧ KeepsPointers s t) ∧
    (∃ t, exec .ld_SP_HL s = .next t ∧ t.sp = wordOf s.h s.l ∧ t.f = s.f ∧ t.pc = s.pc ∧ Keeps [] s t ∧ Stores [] s t ∧
      Made [] s t)

/-! ## 8. Stack and control transfers -/

/-- R291, R294: PUSH writes the high register at `sp - 1`, then the low one at `sp - 2`. -/
def Obligations.PushWritesHighThenLow : Prop :=
  (∀ q, Encoded .primary (opcode 3 (2 * stackPairCode q) 5) 0 fun _ _ => Instr.push q) ∧
  ∀ q s, ∃ t, exec (Instr.push q) s = .next t ∧
    Pushed (match q with
      | .bc => wordOf s.b s.c
      | .de => wordOf s.d s.e
      | .hl => wordOf s.h s.l
      | .af => wordOf s.a s.f) s t ∧
    t.pc = s.pc ∧ t.f = s.f ∧ Keeps [] s t

/-- R293, R295: POP reads the low byte at `sp`, then the high byte at `sp + 1`; POP AF clears F[3:0]. That POP AF masks F
is an inference the spec marks in R23 (decision D15). -/
def Obligations.PopReadsLowThenHigh : Prop :=
  (∀ q, Encoded .primary (opcode 3 (2 * stackPairCode q) 1) 0 fun _ _ => Instr.pop q) ∧
  ∀ s,
    (∃ t, exec .pop_BC s = .next t ∧ t.b = hiByte (topWord s) ∧ t.c = loByte (topWord s) ∧ t.f = s.f ∧
      Keeps [.b, .c] s t ∧ t.pc = s.pc ∧ Popped s t) ∧
    (∃ t, exec .pop_DE s = .next t ∧ t.d = hiByte (topWord s) ∧ t.e = loByte (topWord s) ∧ t.f = s.f ∧
      Keeps [.d, .e] s t ∧ t.pc = s.pc ∧ Popped s t) ∧
    (∃ t, exec .pop_HL s = .next t ∧ t.h = hiByte (topWord s) ∧ t.l = loByte (topWord s) ∧ t.f = s.f ∧
      Keeps [.h, .l] s t ∧ t.pc = s.pc ∧ Popped s t) ∧
    (∃ t, exec .pop_AF s = .next t ∧ t.a = hiByte (topWord s) ∧ t.f = loByte (topWord s) &&& 0xF0#8 ∧
      Keeps [.a] s t ∧ t.pc = s.pc ∧ Popped s t)

/-- R296, R298, R301: JP assigns `pc` and nothing else, a conditional one only when its condition holds; JP (HL) reads no
memory. -/
def Obligations.JumpsAssignPc : Prop :=
  Encoded .primary 0xC3#8 2 (fun lo hi => .jp_nn (wordOf hi lo)) ∧ Encoded .primary 0xE9#8 0 (fun _ _ => .jp_atHL) ∧
  (∀ cc, Encoded .primary (opcode 3 (condCode cc) 2) 2 fun lo hi => Instr.jpIf cc (wordOf hi lo)) ∧
  ∀ s,
    (∀ nn, exec (.jp_nn nn) s = .next { s with pc := nn }) ∧
    exec .jp_atHL s = .next { s with pc := wordOf s.h s.l } ∧
    ∀ cc nn, exec (Instr.jpIf cc nn) s = .next (if condTrue cc s then { s with pc := nn } else s)

/-- R299, R300: JR adds its signed offset to the address after it, modulo 65536, and changes nothing else. That the offset
is signed is the spec's decision D4. -/
def Obligations.RelativeJumpsAddSignedOffset : Prop :=
  Encoded .primary 0x18#8 1 (fun e _ => .jr_e e) ∧
  (∀ cc, Encoded .primary (opcode 0 (4 + condCode cc) 0) 1 fun e _ => Instr.jrIf cc e) ∧
  ∀ e s,
    exec (.jr_e e) s = .next { s with pc := s.pc + signed16 e } ∧
    ∀ cc, exec (Instr.jrIf cc e) s = .next (if condTrue cc s then { s with pc := s.pc + signed16 e } else s)

/-- R297, R308: a conditional JP, JR, CALL or RET whose condition holds is the unconditional one, and one whose condition
fails changes nothing and makes no access; each condition tests one flag, and N and H take part in none. -/
def Obligations.ConditionalsTestOneFlag : Prop :=
  ∀ cc s nn e,
    exec (Instr.jpIf cc nn) s = (if condTrue cc s then exec (.jp_nn nn) s else .next s) ∧
    exec (Instr.jrIf cc e) s = (if condTrue cc s then exec (.jr_e e) s else .next s) ∧
    exec (Instr.callIf cc nn) s = (if condTrue cc s then exec (.call_nn nn) s else .next s) ∧
    exec (Instr.retIf cc) s = if condTrue cc s then exec .ret s else .next s

/-- R302, R303, R307: CALL pushes the address after it and jumps; when its condition fails nothing changes; RST is a one-byte
call of `8 * y`. -/
def Obligations.CallsPushTheReturnAddress : Prop :=
  Encoded .primary 0xCD#8 2 (fun lo hi => .call_nn (wordOf hi lo)) ∧
  (∀ cc, Encoded .primary (opcode 3 (condCode cc) 4) 2 fun lo hi => Instr.callIf cc (wordOf hi lo)) ∧
  (∀ v, Encoded .primary (opcode 3 (rstCode v) 7) 0 fun _ _ => Instr.rst v) ∧
  ∀ s,
    (∀ nn, ∃ t, exec (.call_nn nn) s = .next t ∧ Calls nn s t) ∧
    (∀ cc nn, ∃ t, exec (Instr.callIf cc nn) s = .next t ∧ if condTrue cc s then Calls nn s t else t = s) ∧
    ∀ v, ∃ t, exec (Instr.rst v) s = .next t ∧ Calls (BitVec.ofNat 16 (8 * rstCode v)) s t

/-- R304, R305, R306: RET pops `pc`; RETI also sets `IME`; when its condition fails RET cc changes nothing and reads nothing;
in plain RAM (canonical, as every step keeps it) a RET straight after a CALL comes back to the address after the CALL. -/
def Obligations.ReturnsPopPc : Prop :=
  Encoded .primary 0xC9#8 0 (fun _ _ => .ret) ∧ Encoded .primary 0xD9#8 0 (fun _ _ => .reti) ∧
  (∀ cc, Encoded .primary (opcode 3 (condCode cc) 0) 0 fun _ _ => Instr.retIf cc) ∧
  ∀ s,
    (∃ t, exec .ret s = .next t ∧ Returns s t) ∧
    (∃ t, exec .reti s = .next { t with ime := true } ∧ Returns s t) ∧
    (∀ cc, ∃ t, exec (Instr.retIf cc) s = .next t ∧ if condTrue cc s then Returns s t else t = s) ∧
    ∀ nn, s.params.memory = .ram → s.mem.wf →
      ∃ t u, exec (.call_nn nn) s = .next t ∧ exec .ret t = .next u ∧ u.pc = s.pc

/-- R309, in plain RAM: a push and a pop of one pair restore the pair and `sp`; `PUSH BC` and `POP DE` copy; a call and a
return come back; `PUSH BC` and RET jump to BC. Only F[3:0] = 0 (R23) and memory in canonical form are asked of the state.
The spec marks these properties as derived. -/
def Obligations.StackRoundTrips : Prop :=
  ∀ s, s.params.memory = .ram → s.mem.wf → s.f &&& 0x0F#8 = 0#8 →
    (∀ q, ∃ t u, exec (Instr.push q) s = .next t ∧ exec (Instr.pop q) t = .next u ∧ (∀ r, u.reg r = s.reg r) ∧
      u.f = s.f ∧ u.sp = s.sp ∧ u.pc = s.pc) ∧
    (∃ t u, exec .push_BC s = .next t ∧ exec .pop_DE t = .next u ∧ u.d = s.b ∧ u.e = s.c ∧ u.sp = s.sp) ∧
    (∀ nn, ∃ t u, exec (.call_nn nn) s = .next t ∧ t.pc = nn ∧ exec .ret t = .next u ∧ u.pc = s.pc ∧ u.sp = s.sp) ∧
    (∃ t u, exec .push_BC s = .next t ∧ exec .ret t = .next u ∧ u.pc = wordOf s.b s.c ∧ u.sp = s.sp)

/-! ## 9. Gate, NOP, HALT, STOP, prefix, decode error -/

/-- R320, R321, R322, and the assignments of R323, R324, R325: DI and EI assign `IME` at once, the prefix assigns `mode`,
NOP changes nothing, HALT and STOP assign `run`; the operand of STOP has no effect; nothing else changes. The field `run`,
STOP's operand byte and that EI has no delay are the spec's decisions D9, D10, D11. -/
def Obligations.GateNopHaltStopPrefix : Prop :=
  Encoded .primary 0xF3#8 0 (fun _ _ => .di) ∧ Encoded .primary 0xFB#8 0 (fun _ _ => .ei) ∧
  Encoded .primary 0xCB#8 0 (fun _ _ => .prefix_CB) ∧
  Encoded .primary 0x00#8 0 (fun _ _ => .nop) ∧ Encoded .primary 0x76#8 0 (fun _ _ => .halt) ∧
  Encoded .primary 0x10#8 1 (fun n _ => .stop n) ∧
  ∀ s,
    exec .di s = .next { s with ime := false } ∧ exec .ei s = .next { s with ime := true } ∧
    exec .prefix_CB s = .next { s with mode := .extended } ∧
    (s.params.admitGK = true →
      exec .nop s = .next s ∧ exec .halt s = .next { s with run := .halted } ∧
      ∀ n, exec (.stop n) s = .next { s with run := .stopped })

/-- R323, R324: after a HALT or a STOP that a running core executes, every later step returns `Idle`, makes no access and
changes nothing (the access record, the model's own, is emptied), and `resume` gives the state the instruction found, with
`pc` after it. The field `run` is the spec's decision D9. -/
def Obligations.HaltAndStopWaitForResume : Prop :=
  ∀ s, s.params.admitGK = true → s.run = .running → ∀ i, i = .halt ∨ (∃ n, i = .stop n) →
    ∃ t, exec i s = .next t ∧ t.stepReturn = .idle ∧ (∀ n, Host.Core.run core (n + 1) t = .next { t with bus := [] }) ∧
      t.resume = s

/-- Fourteen of R105's sixteen instructions, those without an operand byte, each with its mnemonic. -/
def Sys2Proof.Claim.generalKnowledgeInstrs : List (Instr × String) :=
  [(.nop, "NOP"), (.halt, "HALT"), (.daa, "DAA"), (.cpl, "CPL"), (.scf, "SCF"), (.ccf, "CCF"), (.inc_BC, "INC_BC"),
    (.inc_DE, "INC_DE"), (.inc_HL, "INC_HL"), (.inc_SP, "INC_SP"), (.dec_BC, "DEC_BC"), (.dec_DE, "DEC_DE"),
    (.dec_HL, "DEC_HL"), (.dec_SP, "DEC_SP")]

/-- R105: with `ADMIT_GK` false the sixteen instructions are refused, each by its name. The parameter is the spec's
decision D21. -/
def Obligations.WithoutGeneralKnowledgeTheSixteenAreRefused : Prop :=
  ∀ s, s.params.admitGK = false → ∀ i name,
    (i, name) ∈ generalKnowledgeInstrs ∨ (name = "STOP" ∧ ∃ n, i = .stop n) ∨ (name = "ADD_SP_e" ∧ ∃ e, i = .add_SP_e e) →
    exec i s = .refused (.generalKnowledge name)

/-- R340, R341, R104: the step that fetches an unmapped byte in Primary mode ends in the decode error, in the state with
`pc` one further and nothing else changed but the one read; under `Skip` it is a next state, a one-byte no-op. Where `pc`
stands is the spec's decision D3. -/
def Obligations.UnmappedBytesRaiseTheDecodeError : Prop :=
  ∀ s op, s.run = .running → s.mode = .primary → nextOp s = op → op ∈ unmappedBytes →
    step s = match s.params.unimplPolicy with
      | .abort => .fault (.unimplementedOpcode { byte := op, mode := .primary } (fetched s 1))
      | .report => .fault (.unimplementedOpcodeReported { byte := op, mode := .primary } s.pc (fetched s 1))
      | .skip => .next (fetched s 1)

/-- R104, R341 for the constructor `unmapped` itself: its own effect is a no-op under `Skip`, and the decode error under
the two other policies. Which bytes are unmapped is the spec's decision D2. -/
def Obligations.UnmappedIsANoOpUnderSkip : Prop :=
  (∀ op, op ∈ unmappedBytes → Encoded .primary op 0 fun _ _ => .unmapped op) ∧
  ∀ op s, (s.params.unimplPolicy = .skip → exec (.unmapped op) s = .next s) ∧
    (s.params.unimplPolicy = .abort →
      exec (.unmapped op) s = .fault (.unimplementedOpcode { byte := op, mode := s.mode } s)) ∧
    (s.params.unimplPolicy = .report →
      exec (.unmapped op) s = .fault (.unimplementedOpcodeReported { byte := op, mode := s.mode } (s.pc - 1#16) s))

/-! ## 10. The step -/

/-- R107: while `run` is not Running a step makes no access and changes nothing (the access record, the model's own, is
emptied) and returns `Idle`; else, the bytes at `pc` decoding in the mode of the state to an instruction (an unmapped byte
to the one that raises the decode error), a step is that instruction executed in the state after the fetch stage. The run
state is the spec's decision D9. -/
def Obligations.StepRunsTheDecodedInstruction : Prop :=
  ∀ s,
    (s.run ≠ .running → step s = .next { s with bus := [] } ∧ s.stepReturn = .idle) ∧
    ∀ i rest, s.run = .running →
      decode s.mode [s.upcoming 0 s.pc, s.upcoming 1 (s.pc + 1#16), s.upcoming 2 (s.pc + 2#16)] = .ok (i, rest) →
      step s = exec i (fetched s (3 - rest.length))

/-- R107, R382 for plain RAM: when memory from `pc` on holds the bytes of a well-formed instruction of the current table, a
step executes it. -/
def Obligations.StepRunsTheInstructionInMemory : Prop :=
  ∀ s i, s.run = .running → s.params.memory = .ram → i.wellFormed = true → s.mode = i.table →
    (∀ k (h : k < i.stepBytes.length), s.byteAt (s.pc + BitVec.ofNat 16 k) = i.stepBytes[k]) →
    step s = exec i (fetched s i.stepBytes.length)

/-- R108, R325: a CB-prefixed instruction takes two steps: the first changes `pc` and `mode` alone; the second looks its
byte up in the extended table, executes that instruction in Primary mode again, with `pc` past it, and never fails. That
the prefix is a step of its own is the spec's decision D5. -/
def Obligations.PrefixedInstructionTakesTwoSteps : Prop :=
  ∀ s t, s.run = .running → s.mode = .primary → nextOp s = 0xCB#8 → t = { fetched s 1 with mode := .extended } →
    step s = .next t ∧ step t = exec (decodeOp .extended (nextOp t) 0#8 0#8) (fetched t 1) ∧ ∃ u, step t = .next u

/-- R342, R105: the only reasons a step has not to answer a next state are the decode error and, with `ADMIT_GK` false,
one of the sixteen refusals; where neither applies, it answers one. The refusals are the spec's decision D21. -/
def Obligations.OnlyTheDecodeErrorStopsAStep : Prop :=
  ∀ s,
    ((∃ t, step s = .next t) ↔
      ¬ (s.run = .running ∧ s.mode = .primary ∧
        ((nextOp s ∈ unmappedBytes ∧ s.params.unimplPolicy ≠ .skip) ∨
          (nextOp s ∈ generalKnowledgeBytes ∧ s.params.admitGK = false)))) ∧
    ∀ m, step s ≠ .refused (.notModelled m)

/-- R11: what a step returns. `Err` carries the byte and the mode, which is Primary, and is returned exactly when an unmapped
byte is fetched. `Idle` is the spec's decision D9. That the answer is `Ok` for a step that `ADMIT_GK` = false refuses is the
model's choice (log entry 14). -/
def Obligations.StepReturnsOkErrOrIdle : Prop :=
  ∀ s,
    (s.stepReturn = .idle ↔ s.run ≠ .running) ∧
    (∀ e, s.stepReturn = .err e ↔
      s.run = .running ∧ s.mode = .primary ∧ nextOp s ∈ unmappedBytes ∧ e = { byte := nextOp s, mode := .primary }) ∧
    (s.stepReturn = .ok ↔ s.run = .running ∧ ¬ (s.mode = .primary ∧ nextOp s ∈ unmappedBytes))

/-! ## 11. Every step, by kind of state -/

/-- What R26's table says of one flag. -/
inductive Sys2Proof.Claim.FlagEffect where
  | assigned | zero | one | kept
deriving DecidableEq, Repr

/-- The entry of R26's table for the byte `op` in mode `m`: Z, N, H, C. -/
def Sys2Proof.Claim.flagRow (m : DecodeMode) (op : Byte) : FlagEffect × FlagEffect × FlagEffect × FlagEffect :=
  match m, op.toNat / 64, op.toNat / 8 % 8, op.toNat % 8 with
  | .primary, 2, y, _ | .primary, 3, y, 6 =>
    if y < 2 then (.assigned, .zero, .assigned, .assigned)
    else if y = 4 then (.assigned, .zero, .one, .zero)
    else if y = 5 ∨ y = 6 then (.assigned, .zero, .zero, .zero)
    else (.assigned, .one, .assigned, .assigned)
  | .primary, 0, _, 4 => (.assigned, .zero, .assigned, .kept)
  | .primary, 0, _, 5 => (.assigned, .one, .assigned, .kept)
  | .primary, 0, 4, 7 => (.assigned, .kept, .zero, .assigned)
  | .primary, 0, 5, 7 => (.kept, .one, .one, .kept)
  | .primary, 0, 6, 7 => (.kept, .zero, .zero, .one)
  | .primary, 0, 7, 7 => (.kept, .zero, .zero, .assigned)
  | .primary, 0, _, 7 => (.assigned, .zero, .zero, .assigned)
  | .primary, 0, y, 1 => if y % 2 = 1 then (.assigned, .zero, .assigned, .assigned) else (.kept, .kept, .kept, .kept)
  | .primary, 3, 5, 0 | .primary, 3, 7, 0 => (.zero, .zero, .assigned, .assigned)
  | .primary, 3, 6, 1 => (.assigned, .assigned, .assigned, .assigned)
  | .extended, 0, 6, _ => (.assigned, .zero, .zero, .zero)
  | .extended, 0, _, _ => (.assigned, .zero, .zero, .assigned)
  | .extended, 1, _, _ => (.assigned, .zero, .one, .kept)
  | _, _, _, _ => (.kept, .kept, .kept, .kept)

/-- A flag's old and new value obey an entry of R26's table. -/
def Sys2Proof.Claim.Obeys (e : FlagEffect) (old new : Bool) : Prop :=
  match e with
  | .assigned => True
  | .zero => new = false
  | .one => new = true
  | .kept => new = old

/-- R26: every step obeys the table of who writes which flag. A step that executes no instruction keeps all four. -/
def Obligations.EveryStepObeysTheFlagTable : Prop :=
  ∀ s t, step s = .next t →
    let row := if s.run = .running then flagRow s.mode (nextOp s) else (.kept, .kept, .kept, .kept)
    Obeys row.1 (zf s) (zf t) ∧ Obeys row.2.1 (nf s) (nf t) ∧ Obeys row.2.2.1 (hf s) (hf t) ∧ Obeys row.2.2.2 (cf s) (cf t)

/-- The bytes whose instruction can assign `pc`: JR, JP, CALL, RET, RETI, RST (R27). -/
def Sys2Proof.Claim.assignsPc (m : DecodeMode) (op : Byte) : Bool :=
  match m, op.toNat / 64, op.toNat / 8 % 8, op.toNat % 8 with
  | .primary, 0, y, 0 => decide (3 ≤ y)
  | .primary, 3, y, 0 => decide (y < 4)
  | .primary, 3, y, 1 => decide (y = 1 ∨ y = 3 ∨ y = 5)
  | .primary, 3, y, 2 => decide (y < 4)
  | .primary, 3, y, 3 => decide (y = 0)
  | .primary, 3, y, 4 => decide (y < 4)
  | .primary, 3, y, 5 => decide (y = 1)
  | .primary, 3, _, 7 => true
  | _, _, _, _ => false

/-- R27, R109: `pc` is advanced by the bytes fetched, one and `LEN[op]` more, and assigned by control transfers only. -/
def Obligations.PcAdvancesByTheLength : Prop :=
  ∀ s t, step s = .next t → s.run = .running → assignsPc s.mode (nextOp s) = false →
    t.pc = s.pc + BitVec.ofNat 16 (1 + operandCount s.mode (nextOp s))

/-- The bytes whose instruction can change `sp`, as R28 lists them: PUSH, POP, CALL, RET, RETI, RST, `LD SP,nn`, `LD SP,HL`,
`INC SP`, `DEC SP`, `ADD SP,e`. -/
def Sys2Proof.Claim.changesSp (m : DecodeMode) (op : Byte) : Bool :=
  match m, op.toNat / 64, op.toNat / 8 % 8, op.toNat % 8 with
  | .primary, 0, y, 1 => decide (y = 6)
  | .primary, 0, y, 3 => decide (6 ≤ y)
  | .primary, 3, y, 0 => decide (y < 4 ∨ y = 5)
  | .primary, 3, y, 1 => decide (y ≠ 5)
  | .primary, 3, y, 4 => decide (y < 4)
  | .primary, 3, y, 5 => decide (y % 2 = 0 ∨ y = 1)
  | .primary, 3, _, 7 => true
  | _, _, _, _ => false

/-- R28: no step changes `sp` but those of the instructions it lists. -/
def Obligations.OnlyStackInstructionsChangeSp : Prop :=
  ∀ s t, step s = .next t → t.sp ≠ s.sp → s.run = .running ∧ changesSp s.mode (nextOp s) = true

/-- R29, R30, R31: a step ends in Extended mode exactly when it fetched a prefix in Primary mode; `run` is changed by HALT and
STOP only; `IME` is set by EI and RETI and cleared by DI and changed by nothing else; the parameters of the run never change. A
step that executes nothing changes none of them. The field `run` is the spec's decision D9, the prefix as a step of its own its
decision D5; that the parameters of R4 stand in the state and no step changes them is the model's choice (log entry 5). -/
def Obligations.ControlFieldWriters : Prop :=
  ∀ s t, step s = .next t →
    t.params = s.params ∧
    if s.run = .running then
      (t.mode = .extended ↔ s.mode = .primary ∧ nextOp s = 0xCB#8) ∧
      (t.run = if s.mode = .primary ∧ nextOp s = 0x76#8 then .halted
        else if s.mode = .primary ∧ nextOp s = 0x10#8 then .stopped else .running) ∧
      (t.ime = if s.mode = .primary ∧ (nextOp s = 0xFB#8 ∨ nextOp s = 0xD9#8) then true
        else if s.mode = .primary ∧ nextOp s = 0xF3#8 then false else s.ime)
    else t.mode = s.mode ∧ t.run = s.run ∧ t.ime = s.ime

/-- R30: "Nothing inside the core reads it": with `IME` at another value a step has the same outcome, every other component
of the state it leaves included. -/
def Obligations.NoStepReadsIme : Prop :=
  ∀ s v, match step s with
    | .next t => ∃ w, step { s with ime := v } = .next { t with ime := w }
    | .fault (.unimplementedOpcode e t) => step { s with ime := v } = .fault (.unimplementedOpcode e { t with ime := v })
    | .fault (.unimplementedOpcodeReported e a t) =>
      step { s with ime := v } = .fault (.unimplementedOpcodeReported e a { t with ime := v })
    | .refused r => step { s with ime := v } = .refused r

/-- Memory `m` becomes `m'` by the calls listed, every read answering what memory holds when it is made (R69). -/
def Sys2Proof.Claim.Replays (m : Memory) (calls : List Access) (m' : Memory) : Prop :=
  match calls with
  | [] => m' = m
  | .read a v :: rest => v = m.read a.toNat ∧ Replays m rest m'
  | .write a v :: rest => Replays (m.write a.toNat v) rest m'

/-- R65, R69, R74, in plain RAM: a step's memory is the replay of its calls, every read returns the latest write in that
order, and the calls begin with the reads of the fetch stage. That a step makes no other access is the spec's decision
D17. -/
def Obligations.MemoryIsTheReplayOfTheCalls : Prop :=
  ∀ s t, s.params.memory = .ram → step s = .next t →
    Replays s.mem t.bus t.mem ∧
    (s.run = .running → ∃ data, t.bus = fetchReads s (1 + operandCount s.mode (nextOp s)) ++ data)

/-- Every step keeps the invariant: F[3:0] zero (R23), memory canonical, Extended mode only while running. -/
def Obligations.StepKeepsInv : Prop := ∀ s t, s.Inv → step s = .next t → t.Inv

/-- The invariant holds after reset. -/
def Obligations.ResetHasInv : Prop := State.reset.Inv

/-! ## 12. Reset and the caller -/

/-- R34, R370, R371: what the reset operation leaves, for every draw of the registers the spec leaves unspecified: it
writes every field of the core, F[3:0] is 0, and memory and the parameters are not touched. The unspecified registers,
`RESET_IME` and `run` are the spec's decisions D7, D8, D9. -/
def Obligations.InitLeavesTheBootState : Prop :=
  ∀ draw s,
    (State.init draw s).pc = 0#16 ∧ (State.init draw s).mode = .primary ∧ (State.init draw s).ime = draw.ime ∧
    (State.init draw s).run = .running ∧ (State.init draw s).sp = draw.sp ∧
    (∀ r, (State.init draw s).reg r = match r with
      | .b => draw.b | .c => draw.c | .d => draw.d | .e => draw.e | .h => draw.h | .l => draw.l | .a => draw.a) ∧
    (State.init draw s).f.toNat = 16 * draw.fHigh.toNat ∧ Stores [] s (State.init draw s) ∧
    (State.init draw s).bus = [] ∧ (State.init draw s).params = s.params

/-- The model's own reset state has the values the spec states (R34) and is one of the states `init` leaves; the register
values in it are the model's choice (log entry 1), and so is that memory lists nothing (log entry 2). -/
def Obligations.ResetIsABootState : Prop :=
  State.reset.pc = 0#16 ∧ State.reset.mode = .primary ∧ State.reset.ime = true ∧ State.reset.run = .running ∧
  State.reset.f &&& 0x0F#8 = 0#8 ∧ State.reset.mem = [] ∧
  ∃ draw : ResetParams, draw.ime = true ∧ State.reset = State.init draw State.reset

/-- R35, R347: the caller's operations. `ime_read` and `ime_clear` reach the gate alone, `resume` the run state alone; the
platform's interrupt entry needs the gate open and Primary mode, closes the gate, pushes `pc` and goes to the vector.
`resume` and the entry are the spec's decisions D9 and D20. -/
def Obligations.CallerOperations : Prop :=
  ∀ s : State,
    s.imeRead = s.ime ∧ s.imeClear = { s with ime := false } ∧ s.resume = { s with run := .running } ∧
    ∀ vector,
      ((s.interruptEntry vector).isSome ↔ s.mode = .primary ∧ s.ime = true) ∧
      ∀ t, s.interruptEntry vector = some t →
        t.pc = vector ∧ t.ime = false ∧ t.run = .running ∧ Pushed s.pc s t ∧ (∀ r, t.reg r = s.reg r) ∧ t.f = s.f ∧
        t.mode = s.mode ∧ t.params = s.params

/-- R22: a pair written reads back, high register in bits 15..8; AF reads back with F[3:0] cleared. -/
def Obligations.PairsAreViews : Prop :=
  ∀ (s : State) (w : Word),
    (∀ q, q ≠ .af → (s.setStackPair q w).stackPair q = w) ∧
    (s.setStackPair .af w).stackPair .af = w &&& 0xFFF0#16 ∧
    s.stackPair .bc = wordOf s.b s.c ∧ s.stackPair .de = wordOf s.d s.e ∧ s.stackPair .hl = wordOf s.h s.l ∧
    s.stackPair .af = wordOf s.a s.f ∧
    (s.setPair .bc w).b = hiByte w ∧ (s.setPair .bc w).c = loByte w ∧ (s.setPair .de w).d = hiByte w ∧
    (s.setPair .de w).e = loByte w ∧ (s.setPair .hl w).h = hiByte w ∧ (s.setPair .hl w).l = loByte w

/-! ## 13. Encoding -/

/-- Every well-formed instruction, with every operand, decodes from its own bytes: in the mode of its table from the bytes a
step fetches, and as program text from its whole encoding (the prefix alone is no whole instruction, R325). -/
def Obligations.DecodeOfEncode : Prop :=
  ∀ i : Instr, i.wellFormed = true → ∀ rest,
    decode i.table (i.stepBytes ++ rest) = .ok (i, rest) ∧
    (i ≠ .prefix_CB → decodeText (encode i ++ rest) = .ok (i, rest))

/-- The decoder reads exactly the encodings: what it answers is well formed, of the mode's table, and its bytes are the ones
consumed. -/
def Obligations.DecodeReadsExactlyTheEncodings : Prop :=
  ∀ m bytes i rest, decode m bytes = .ok (i, rest) ↔ i.wellFormed = true ∧ i.table = m ∧ bytes = i.stepBytes ++ rest

/-- R109, R90, R101, R103, R104: each of the 512 (mode, byte) combinations stands for an instruction, its length is decided by
the mode and the byte alone, and the unmapped bytes are the eleven. Which bytes are unmapped is the spec's decision D2; that an
extended byte has no operand byte is its decision D6. -/
def Obligations.DecoderIsTotalOnBytes : Prop :=
  ∀ m op lo hi rest, ∃ i, i.opcode = op ∧ i.table = m ∧
    decode m (op :: lo :: hi :: rest) = .ok (i, (lo :: hi :: rest).drop (operandCount m op)) ∧
    ((∃ b, i = .unmapped b) ↔ m = .primary ∧ op ∈ unmappedBytes)

/-- The bytes the source itself names (R100), and a few of each format (R91). -/
def Obligations.SampleWordsDecode : Prop :=
  decodeText [0x3E#8, 0x05#8] = .ok (.ld_A_n 0x05#8, []) ∧ decodeText [0x06#8, 0x03#8] = .ok (.ld_B_n 0x03#8, []) ∧
  decodeText [0x80#8] = .ok (.add_A_B, []) ∧ decodeText [0xAF#8] = .ok (.xor_A, []) ∧
  decodeText [0xCB#8, 0x7C#8] = .ok (.bit_7_H, []) ∧ decodeText [0xCB#8, 0xCB#8] = .ok (.set_1_E, []) ∧
  decodeText [0xCD#8, 0x34#8, 0x12#8] = .ok (.call_nn 0x1234#16, []) ∧ decodeText [0x18#8, 0xFB#8] = .ok (.jr_e 0xFB#8, [])

end
end

