-- ==== Sys2Proof/Laws/Exec.lean ====
section
/-! SUPPORT. What `exec` answers, one equation per family of instructions and one per other instruction, over the shared
operations, so that no proof unfolds `exec`; and the case analysis of an instruction by family. -/

namespace Sys2Proof.Machine

/-! ## The families -/

theorem exec_alu (op : AluOp) (x : Src8) (s : State) :
    exec (Instr.alu op x) s = .next (s.aluA op x) := by
  cases op <;> rcases x with ((r | _) | _) <;> first | rfl | (cases r <;> rfl)

theorem exec_incLoc (x : Loc8) (s : State) :
    exec (Instr.incLoc x) s = .next (s.incLoc x) := by
  rcases x with (r | _) <;> first | rfl | (cases r <;> rfl)

theorem exec_decLoc (x : Loc8) (s : State) :
    exec (Instr.decLoc x) s = .next (s.decLoc x) := by
  rcases x with (r | _) <;> first | rfl | (cases r <;> rfl)

theorem exec_ldReg (r : Reg8) (r' : Reg8) (s : State) :
    exec (Instr.ldReg r r') s = .next (s.setReg r (s.reg r')) := by
  cases r <;> cases r' <;> rfl

theorem exec_ldImm (r : Reg8) (n : Byte) (s : State) :
    exec (Instr.ldImm r n) s = .next (s.setReg r n) := by
  cases r <;> rfl

theorem exec_ldFromHL (r : Reg8) (s : State) :
    exec (Instr.ldFromHL r) s = .next (s.loadReg r s.hl) := by
  cases r <;> rfl

theorem exec_ldToHL (r : Reg8) (s : State) :
    exec (Instr.ldToHL r) s = .next (s.memWrite s.hl (s.reg r)) := by
  cases r <;> rfl

theorem exec_ldPair (p : Pair) (nn : Word) (s : State) :
    exec (Instr.ldPair p nn) s = .next (s.setPair p nn) := by
  cases p <;> rfl

theorem exec_addHL (p : Pair) (s : State) :
    exec (Instr.addHL p) s = .next (s.addHL p) := by
  cases p <;> rfl

/-- The mnemonic a refusal of `INC rr` names. -/
def incPairMnemonic (p : Pair) : String :=
  match p with
  | .bc => "INC_BC"
  | .de => "INC_DE"
  | .hl => "INC_HL"
  | .sp => "INC_SP"

theorem exec_incPair (p : Pair) (s : State) :
    exec (Instr.incPair p) s = admitGK (incPairMnemonic p) s (s.incPair p) := by
  cases p <;> rfl

/-- The mnemonic a refusal of `DEC rr` names. -/
def decPairMnemonic (p : Pair) : String :=
  match p with
  | .bc => "DEC_BC"
  | .de => "DEC_DE"
  | .hl => "DEC_HL"
  | .sp => "DEC_SP"

theorem exec_decPair (p : Pair) (s : State) :
    exec (Instr.decPair p) s = admitGK (decPairMnemonic p) s (s.decPair p) := by
  cases p <;> rfl

theorem exec_push (q : StackPair) (s : State) :
    exec (Instr.push q) s = .next (s.push q) := by
  cases q <;> rfl

theorem exec_pop (q : StackPair) (s : State) :
    exec (Instr.pop q) s = .next (s.pop q) := by
  cases q <;> rfl

theorem exec_jpIf (cc : Cond) (nn : Word) (s : State) :
    exec (Instr.jpIf cc nn) s = .next (s.whenHolds cc (s.jump nn)) := by
  cases cc <;> rfl

theorem exec_jrIf (cc : Cond) (e : Byte) (s : State) :
    exec (Instr.jrIf cc e) s = .next (s.whenHolds cc (s.jumpRel e)) := by
  cases cc <;> rfl

theorem exec_callIf (cc : Cond) (nn : Word) (s : State) :
    exec (Instr.callIf cc nn) s = .next (s.whenHolds cc (s.call nn)) := by
  cases cc <;> rfl

theorem exec_retIf (cc : Cond) (s : State) :
    exec (Instr.retIf cc) s = .next (s.whenHolds cc s.ret) := by
  cases cc <;> rfl

theorem exec_rst (t : RstVec) (s : State) :
    exec (Instr.rst t) s = .next (s.call (rstTarget t)) := by
  cases t <;> rfl

theorem exec_rot (op : RotOp) (x : Loc8) (s : State) :
    exec (Instr.rot op x) s = .next (s.rotateLoc op x) := by
  cases op <;> rcases x with (r | _) <;> first | rfl | (cases r <;> rfl)

theorem exec_bit (n : BitNo) (x : Loc8) (s : State) :
    exec (Instr.bit n x) s = .next (s.bitTest n x) := by
  cases n <;> rcases x with (r | _) <;> first | rfl | (cases r <;> rfl)

theorem exec_res (n : BitNo) (x : Loc8) (s : State) :
    exec (Instr.res n x) s = .next (s.resBit n x) := by
  cases n <;> rcases x with (r | _) <;> first | rfl | (cases r <;> rfl)

theorem exec_set (n : BitNo) (x : Loc8) (s : State) :
    exec (Instr.set n x) s = .next (s.setBit n x) := by
  cases n <;> rcases x with (r | _) <;> first | rfl | (cases r <;> rfl)

/-! ## The other instructions -/

theorem exec_nop (s : State) : exec .nop s = admitGK "NOP" s s := rfl
theorem exec_ld_atBC_A (s : State) : exec .ld_atBC_A s = .next (s.storeA (s.pair .bc)) := rfl
theorem exec_rlca (s : State) : exec .rlca s = .next (s.rotateA .rlc) := rfl
theorem exec_ld_atNN_SP (nn : Word) (s : State) : exec (.ld_atNN_SP nn) s = .next (s.storeSP nn) := rfl
theorem exec_ld_A_atBC (s : State) : exec .ld_A_atBC s = .next (s.loadReg .a (s.pair .bc)) := rfl
theorem exec_rrca (s : State) : exec .rrca s = .next (s.rotateA .rrc) := rfl
theorem exec_stop (n : Byte) (s : State) : exec (.stop n) s = admitGK "STOP" s (s.setRun .stopped) := rfl
theorem exec_ld_atDE_A (s : State) : exec .ld_atDE_A s = .next (s.storeA (s.pair .de)) := rfl
theorem exec_rla (s : State) : exec .rla s = .next (s.rotateA .rl) := rfl
theorem exec_jr_e (e : Byte) (s : State) : exec (.jr_e e) s = .next (s.jumpRel e) := rfl
theorem exec_ld_A_atDE (s : State) : exec .ld_A_atDE s = .next (s.loadReg .a (s.pair .de)) := rfl
theorem exec_rra (s : State) : exec .rra s = .next (s.rotateA .rr) := rfl
theorem exec_ld_atHLinc_A (s : State) : exec .ld_atHLinc_A s = .next ((s.storeA s.hl).setPair .hl (s.hl + 1#16)) := rfl
theorem exec_daa (s : State) : exec .daa s = admitGK "DAA" s (s.daa) := rfl
theorem exec_ld_A_atHLinc (s : State) : exec .ld_A_atHLinc s = .next ((s.loadReg .a s.hl).setPair .hl (s.hl + 1#16)) := rfl
theorem exec_cpl (s : State) : exec .cpl s = admitGK "CPL" s (s.cpl) := rfl
theorem exec_ld_atHLdec_A (s : State) : exec .ld_atHLdec_A s = .next ((s.storeA s.hl).setPair .hl (s.hl - 1#16)) := rfl
theorem exec_ld_atHL_n (n : Byte) (s : State) : exec (.ld_atHL_n n) s = .next (s.memWrite s.hl n) := rfl
theorem exec_scf (s : State) : exec .scf s = admitGK "SCF" s (s.scf) := rfl
theorem exec_ld_A_atHLdec (s : State) : exec .ld_A_atHLdec s = .next ((s.loadReg .a s.hl).setPair .hl (s.hl - 1#16)) := rfl
theorem exec_ccf (s : State) : exec .ccf s = admitGK "CCF" s (s.ccf) := rfl
theorem exec_halt (s : State) : exec .halt s = admitGK "HALT" s (s.setRun .halted) := rfl
theorem exec_jp_nn (nn : Word) (s : State) : exec (.jp_nn nn) s = .next (s.jump nn) := rfl
theorem exec_ret (s : State) : exec .ret s = .next (s.ret) := rfl
theorem exec_prefix_CB (s : State) : exec .prefix_CB s = .next (s.setMode .extended) := rfl
theorem exec_call_nn (nn : Word) (s : State) : exec (.call_nn nn) s = .next (s.call nn) := rfl
theorem exec_unmapped (op : Byte) (s : State) : exec (.unmapped op) s = raiseUnimplemented op s := rfl
theorem exec_reti (s : State) : exec .reti s = .next (s.reti) := rfl
theorem exec_ldh_atN_A (n : Byte) (s : State) : exec (.ldh_atN_A n) s = .next (s.storeA (highPage n)) := rfl
theorem exec_ld_atC_A (s : State) : exec .ld_atC_A s = .next (s.storeA (highPage s.c)) := rfl
theorem exec_add_SP_e (e : Byte) (s : State) : exec (.add_SP_e e) s = admitGK "ADD_SP_e" s (s.addSP e) := rfl
theorem exec_jp_atHL (s : State) : exec .jp_atHL s = .next (s.jump s.hl) := rfl
theorem exec_ld_atNN_A (nn : Word) (s : State) : exec (.ld_atNN_A nn) s = .next (s.storeA nn) := rfl
theorem exec_ldh_A_atN (n : Byte) (s : State) : exec (.ldh_A_atN n) s = .next (s.loadReg .a (highPage n)) := rfl
theorem exec_ld_A_atC (s : State) : exec .ld_A_atC s = .next (s.loadReg .a (highPage s.c)) := rfl
theorem exec_di (s : State) : exec .di s = .next (s.setIme false) := rfl
theorem exec_ld_HL_SPe (e : Byte) (s : State) : exec (.ld_HL_SPe e) s = .next (s.loadHLSP e) := rfl
theorem exec_ld_SP_HL (s : State) : exec .ld_SP_HL s = .next (s.setPair .sp s.hl) := rfl
theorem exec_ld_A_atNN (nn : Word) (s : State) : exec (.ld_A_atNN nn) s = .next (s.loadReg .a nn) := rfl
theorem exec_ei (s : State) : exec .ei s = .next (s.setIme true) := rfl

/-! ## Every instruction is of a family -/

/-- The case analysis of an instruction by family: what holds of every family and of every other instruction holds of every
instruction. -/
theorem Instr.by_family {P : Instr → Prop}
    (alu : ∀ (op : AluOp) (x : Src8), P (Instr.alu op x))
    (incLoc : ∀ (x : Loc8), P (Instr.incLoc x))
    (decLoc : ∀ (x : Loc8), P (Instr.decLoc x))
    (ldReg : ∀ (r : Reg8) (r' : Reg8), P (Instr.ldReg r r'))
    (ldImm : ∀ (r : Reg8) (n : Byte), P (Instr.ldImm r n))
    (ldFromHL : ∀ (r : Reg8), P (Instr.ldFromHL r))
    (ldToHL : ∀ (r : Reg8), P (Instr.ldToHL r))
    (ldPair : ∀ (p : Pair) (nn : Word), P (Instr.ldPair p nn))
    (addHL : ∀ (p : Pair), P (Instr.addHL p))
    (incPair : ∀ (p : Pair), P (Instr.incPair p))
    (decPair : ∀ (p : Pair), P (Instr.decPair p))
    (push : ∀ (q : StackPair), P (Instr.push q))
    (pop : ∀ (q : StackPair), P (Instr.pop q))
    (jpIf : ∀ (cc : Cond) (nn : Word), P (Instr.jpIf cc nn))
    (jrIf : ∀ (cc : Cond) (e : Byte), P (Instr.jrIf cc e))
    (callIf : ∀ (cc : Cond) (nn : Word), P (Instr.callIf cc nn))
    (retIf : ∀ (cc : Cond), P (Instr.retIf cc))
    (rst : ∀ (t : RstVec), P (Instr.rst t))
    (rot : ∀ (op : RotOp) (x : Loc8), P (Instr.rot op x))
    (bit : ∀ (n : BitNo) (x : Loc8), P (Instr.bit n x))
    (res : ∀ (n : BitNo) (x : Loc8), P (Instr.res n x))
    (set : ∀ (n : BitNo) (x : Loc8), P (Instr.set n x))
    (nop : P .nop)
    (ld_atBC_A : P .ld_atBC_A)
    (rlca : P .rlca)
    (ld_atNN_SP : ∀ nn, P (.ld_atNN_SP nn))
    (ld_A_atBC : P .ld_A_atBC)
    (rrca : P .rrca)
    (stop : ∀ n, P (.stop n))
    (ld_atDE_A : P .ld_atDE_A)
    (rla : P .rla)
    (jr_e : ∀ e, P (.jr_e e))
    (ld_A_atDE : P .ld_A_atDE)
    (rra : P .rra)
    (ld_atHLinc_A : P .ld_atHLinc_A)
    (daa : P .daa)
    (ld_A_atHLinc : P .ld_A_atHLinc)
    (cpl : P .cpl)
    (ld_atHLdec_A : P .ld_atHLdec_A)
    (ld_atHL_n : ∀ n, P (.ld_atHL_n n))
    (scf : P .scf)
    (ld_A_atHLdec : P .ld_A_atHLdec)
    (ccf : P .ccf)
    (halt : P .halt)
    (jp_nn : ∀ nn, P (.jp_nn nn))
    (ret : P .ret)
    (prefix_CB : P .prefix_CB)
    (call_nn : ∀ nn, P (.call_nn nn))
    (unmapped : ∀ op, P (.unmapped op))
    (reti : P .reti)
    (ldh_atN_A : ∀ n, P (.ldh_atN_A n))
    (ld_atC_A : P .ld_atC_A)
    (add_SP_e : ∀ e, P (.add_SP_e e))
    (jp_atHL : P .jp_atHL)
    (ld_atNN_A : ∀ nn, P (.ld_atNN_A nn))
    (ldh_A_atN : ∀ n, P (.ldh_A_atN n))
    (ld_A_atC : P .ld_A_atC)
    (di : P .di)
    (ld_HL_SPe : ∀ e, P (.ld_HL_SPe e))
    (ld_SP_HL : P .ld_SP_HL)
    (ld_A_atNN : ∀ nn, P (.ld_A_atNN nn))
    (ei : P .ei)
    (i : Instr) : P i :=
  match i with
  | .nop => nop
  | .ld_BC_nn nn => ldPair .bc nn
  | .ld_atBC_A => ld_atBC_A
  | .inc_BC => incPair .bc
  | .inc_B => incLoc (.reg .b)
  | .dec_B => decLoc (.reg .b)
  | .ld_B_n n => ldImm .b n
  | .rlca => rlca
  | .ld_atNN_SP nn => ld_atNN_SP nn
  | .add_HL_BC => addHL .bc
  | .ld_A_atBC => ld_A_atBC
  | .dec_BC => decPair .bc
  | .inc_C => incLoc (.reg .c)
  | .dec_C => decLoc (.reg .c)
  | .ld_C_n n => ldImm .c n
  | .rrca => rrca
  | .stop n => stop n
  | .ld_DE_nn nn => ldPair .de nn
  | .ld_atDE_A => ld_atDE_A
  | .inc_DE => incPair .de
  | .inc_D => incLoc (.reg .d)
  | .dec_D => decLoc (.reg .d)
  | .ld_D_n n => ldImm .d n
  | .rla => rla
  | .jr_e e => jr_e e
  | .add_HL_DE => addHL .de
  | .ld_A_atDE => ld_A_atDE
  | .dec_DE => decPair .de
  | .inc_E => incLoc (.reg .e)
  | .dec_E => decLoc (.reg .e)
  | .ld_E_n n => ldImm .e n
  | .rra => rra
  | .jr_NZ_e e => jrIf .nz e
  | .ld_HL_nn nn => ldPair .hl nn
  | .ld_atHLinc_A => ld_atHLinc_A
  | .inc_HL => incPair .hl
  | .inc_H => incLoc (.reg .h)
  | .dec_H => decLoc (.reg .h)
  | .ld_H_n n => ldImm .h n
  | .daa => daa
  | .jr_Z_e e => jrIf .z e
  | .add_HL_HL => addHL .hl
  | .ld_A_atHLinc => ld_A_atHLinc
  | .dec_HL => decPair .hl
  | .inc_L => incLoc (.reg .l)
  | .dec_L => decLoc (.reg .l)
  | .ld_L_n n => ldImm .l n
  | .cpl => cpl
  | .jr_NC_e e => jrIf .nc e
  | .ld_SP_nn nn => ldPair .sp nn
  | .ld_atHLdec_A => ld_atHLdec_A
  | .inc_SP => incPair .sp
  | .inc_atHL => incLoc .atHL
  | .dec_atHL => decLoc .atHL
  | .ld_atHL_n n => ld_atHL_n n
  | .scf => scf
  | .jr_C_e e => jrIf .c e
  | .add_HL_SP => addHL .sp
  | .ld_A_atHLdec => ld_A_atHLdec
  | .dec_SP => decPair .sp
  | .inc_A => incLoc (.reg .a)
  | .dec_A => decLoc (.reg .a)
  | .ld_A_n n => ldImm .a n
  | .ccf => ccf
  | .ld_B_B => ldReg .b .b
  | .ld_B_C => ldReg .b .c
  | .ld_B_D => ldReg .b .d
  | .ld_B_E => ldReg .b .e
  | .ld_B_H => ldReg .b .h
  | .ld_B_L => ldReg .b .l
  | .ld_B_atHL => ldFromHL .b
  | .ld_B_A => ldReg .b .a
  | .ld_C_B => ldReg .c .b
  | .ld_C_C => ldReg .c .c
  | .ld_C_D => ldReg .c .d
  | .ld_C_E => ldReg .c .e
  | .ld_C_H => ldReg .c .h
  | .ld_C_L => ldReg .c .l
  | .ld_C_atHL => ldFromHL .c
  | .ld_C_A => ldReg .c .a
  | .ld_D_B => ldReg .d .b
  | .ld_D_C => ldReg .d .c
  | .ld_D_D => ldReg .d .d
  | .ld_D_E => ldReg .d .e
  | .ld_D_H => ldReg .d .h
  | .ld_D_L => ldReg .d .l
  | .ld_D_atHL => ldFromHL .d
  | .ld_D_A => ldReg .d .a
  | .ld_E_B => ldReg .e .b
  | .ld_E_C => ldReg .e .c
  | .ld_E_D => ldReg .e .d
  | .ld_E_E => ldReg .e .e
  | .ld_E_H => ldReg .e .h
  | .ld_E_L => ldReg .e .l
  | .ld_E_atHL => ldFromHL .e
  | .ld_E_A => ldReg .e .a
  | .ld_H_B => ldReg .h .b
  | .ld_H_C => ldReg .h .c
  | .ld_H_D => ldReg .h .d
  | .ld_H_E => ldReg .h .e
  | .ld_H_H => ldReg .h .h
  | .ld_H_L => ldReg .h .l
  | .ld_H_atHL => ldFromHL .h
  | .ld_H_A => ldReg .h .a
  | .ld_L_B => ldReg .l .b
  | .ld_L_C => ldReg .l .c
  | .ld_L_D => ldReg .l .d
  | .ld_L_E => ldReg .l .e
  | .ld_L_H => ldReg .l .h
  | .ld_L_L => ldReg .l .l
  | .ld_L_atHL => ldFromHL .l
  | .ld_L_A => ldReg .l .a
  | .ld_atHL_B => ldToHL .b
  | .ld_atHL_C => ldToHL .c
  | .ld_atHL_D => ldToHL .d
  | .ld_atHL_E => ldToHL .e
  | .ld_atHL_H => ldToHL .h
  | .ld_atHL_L => ldToHL .l
  | .halt => halt
  | .ld_atHL_A => ldToHL .a
  | .ld_A_B => ldReg .a .b
  | .ld_A_C => ldReg .a .c
  | .ld_A_D => ldReg .a .d
  | .ld_A_E => ldReg .a .e
  | .ld_A_H => ldReg .a .h
  | .ld_A_L => ldReg .a .l
  | .ld_A_atHL => ldFromHL .a
  | .ld_A_A => ldReg .a .a
  | .add_A_B => alu .add (.loc (.reg .b))
  | .add_A_C => alu .add (.loc (.reg .c))
  | .add_A_D => alu .add (.loc (.reg .d))
  | .add_A_E => alu .add (.loc (.reg .e))
  | .add_A_H => alu .add (.loc (.reg .h))
  | .add_A_L => alu .add (.loc (.reg .l))
  | .add_A_atHL => alu .add (.loc .atHL)
  | .add_A_A => alu .add (.loc (.reg .a))
  | .adc_A_B => alu .adc (.loc (.reg .b))
  | .adc_A_C => alu .adc (.loc (.reg .c))
  | .adc_A_D => alu .adc (.loc (.reg .d))
  | .adc_A_E => alu .adc (.loc (.reg .e))
  | .adc_A_H => alu .adc (.loc (.reg .h))
  | .adc_A_L => alu .adc (.loc (.reg .l))
  | .adc_A_atHL => alu .adc (.loc .atHL)
  | .adc_A_A => alu .adc (.loc (.reg .a))
  | .sub_B => alu .sub (.loc (.reg .b))
  | .sub_C => alu .sub (.loc (.reg .c))
  | .sub_D => alu .sub (.loc (.reg .d))
  | .sub_E => alu .sub (.loc (.reg .e))
  | .sub_H => alu .sub (.loc (.reg .h))
  | .sub_L => alu .sub (.loc (.reg .l))
  | .sub_atHL => alu .sub (.loc .atHL)
  | .sub_A => alu .sub (.loc (.reg .a))
  | .sbc_A_B => alu .sbc (.loc (.reg .b))
  | .sbc_A_C => alu .sbc (.loc (.reg .c))
  | .sbc_A_D => alu .sbc (.loc (.reg .d))
  | .sbc_A_E => alu .sbc (.loc (.reg .e))
  | .sbc_A_H => alu .sbc (.loc (.reg .h))
  | .sbc_A_L => alu .sbc (.loc (.reg .l))
  | .sbc_A_atHL => alu .sbc (.loc .atHL)
  | .sbc_A_A => alu .sbc (.loc (.reg .a))
  | .and_B => alu .and (.loc (.reg .b))
  | .and_C => alu .and (.loc (.reg .c))
  | .and_D => alu .and (.loc (.reg .d))
  | .and_E => alu .and (.loc (.reg .e))
  | .and_H => alu .and (.loc (.reg .h))
  | .and_L => alu .and (.loc (.reg .l))
  | .and_atHL => alu .and (.loc .atHL)
  | .and_A => alu .and (.loc (.reg .a))
  | .xor_B => alu .xor (.loc (.reg .b))
  | .xor_C => alu .xor (.loc (.reg .c))
  | .xor_D => alu .xor (.loc (.reg .d))
  | .xor_E => alu .xor (.loc (.reg .e))
  | .xor_H => alu .xor (.loc (.reg .h))
  | .xor_L => alu .xor (.loc (.reg .l))
  | .xor_atHL => alu .xor (.loc .atHL)
  | .xor_A => alu .xor (.loc (.reg .a))
  | .or_B => alu .or (.loc (.reg .b))
  | .or_C => alu .or (.loc (.reg .c))
  | .or_D => alu .or (.loc (.reg .d))
  | .or_E => alu .or (.loc (.reg .e))
  | .or_H => alu .or (.loc (.reg .h))
  | .or_L => alu .or (.loc (.reg .l))
  | .or_atHL => alu .or (.loc .atHL)
  | .or_A => alu .or (.loc (.reg .a))
  | .cp_B => alu .cp (.loc (.reg .b))
  | .cp_C => alu .cp (.loc (.reg .c))
  | .cp_D => alu .cp (.loc (.reg .d))
  | .cp_E => alu .cp (.loc (.reg .e))
  | .cp_H => alu .cp (.loc (.reg .h))
  | .cp_L => alu .cp (.loc (.reg .l))
  | .cp_atHL => alu .cp (.loc .atHL)
  | .cp_A => alu .cp (.loc (.reg .a))
  | .ret_NZ => retIf .nz
  | .pop_BC => pop .bc
  | .jp_NZ_nn nn => jpIf .nz nn
  | .jp_nn nn => jp_nn nn
  | .call_NZ_nn nn => callIf .nz nn
  | .push_BC => push .bc
  | .add_A_n n => alu .add (.imm n)
  | .rst_00 => rst .v00
  | .ret_Z => retIf .z
  | .ret => ret
  | .jp_Z_nn nn => jpIf .z nn
  | .prefix_CB => prefix_CB
  | .call_Z_nn nn => callIf .z nn
  | .call_nn nn => call_nn nn
  | .adc_A_n n => alu .adc (.imm n)
  | .rst_08 => rst .v08
  | .ret_NC => retIf .nc
  | .pop_DE => pop .de
  | .jp_NC_nn nn => jpIf .nc nn
  | .unmapped op => unmapped op
  | .call_NC_nn nn => callIf .nc nn
  | .push_DE => push .de
  | .sub_n n => alu .sub (.imm n)
  | .rst_10 => rst .v10
  | .ret_C => retIf .c
  | .reti => reti
  | .jp_C_nn nn => jpIf .c nn
  | .call_C_nn nn => callIf .c nn
  | .sbc_A_n n => alu .sbc (.imm n)
  | .rst_18 => rst .v18
  | .ldh_atN_A n => ldh_atN_A n
  | .pop_HL => pop .hl
  | .ld_atC_A => ld_atC_A
  | .push_HL => push .hl
  | .and_n n => alu .and (.imm n)
  | .rst_20 => rst .v20
  | .add_SP_e e => add_SP_e e
  | .jp_atHL => jp_atHL
  | .ld_atNN_A nn => ld_atNN_A nn
  | .xor_n n => alu .xor (.imm n)
  | .rst_28 => rst .v28
  | .ldh_A_atN n => ldh_A_atN n
  | .pop_AF => pop .af
  | .ld_A_atC => ld_A_atC
  | .di => di
  | .push_AF => push .af
  | .or_n n => alu .or (.imm n)
  | .rst_30 => rst .v30
  | .ld_HL_SPe e => ld_HL_SPe e
  | .ld_SP_HL => ld_SP_HL
  | .ld_A_atNN nn => ld_A_atNN nn
  | .ei => ei
  | .cp_n n => alu .cp (.imm n)
  | .rst_38 => rst .v38
  | .rlc_B => rot .rlc (.reg .b)
  | .rlc_C => rot .rlc (.reg .c)
  | .rlc_D => rot .rlc (.reg .d)
  | .rlc_E => rot .rlc (.reg .e)
  | .rlc_H => rot .rlc (.reg .h)
  | .rlc_L => rot .rlc (.reg .l)
  | .rlc_atHL => rot .rlc .atHL
  | .rlc_A => rot .rlc (.reg .a)
  | .rrc_B => rot .rrc (.reg .b)
  | .rrc_C => rot .rrc (.reg .c)
  | .rrc_D => rot .rrc (.reg .d)
  | .rrc_E => rot .rrc (.reg .e)
  | .rrc_H => rot .rrc (.reg .h)
  | .rrc_L => rot .rrc (.reg .l)
  | .rrc_atHL => rot .rrc .atHL
  | .rrc_A => rot .rrc (.reg .a)
  | .rl_B => rot .rl (.reg .b)
  | .rl_C => rot .rl (.reg .c)
  | .rl_D => rot .rl (.reg .d)
  | .rl_E => rot .rl (.reg .e)
  | .rl_H => rot .rl (.reg .h)
  | .rl_L => rot .rl (.reg .l)
  | .rl_atHL => rot .rl .atHL
  | .rl_A => rot .rl (.reg .a)
  | .rr_B => rot .rr (.reg .b)
  | .rr_C => rot .rr (.reg .c)
  | .rr_D => rot .rr (.reg .d)
  | .rr_E => rot .rr (.reg .e)
  | .rr_H => rot .rr (.reg .h)
  | .rr_L => rot .rr (.reg .l)
  | .rr_atHL => rot .rr .atHL
  | .rr_A => rot .rr (.reg .a)
  | .sla_B => rot .sla (.reg .b)
  | .sla_C => rot .sla (.reg .c)
  | .sla_D => rot .sla (.reg .d)
  | .sla_E => rot .sla (.reg .e)
  | .sla_H => rot .sla (.reg .h)
  | .sla_L => rot .sla (.reg .l)
  | .sla_atHL => rot .sla .atHL
  | .sla_A => rot .sla (.reg .a)
  | .sra_B => rot .sra (.reg .b)
  | .sra_C => rot .sra (.reg .c)
  | .sra_D => rot .sra (.reg .d)
  | .sra_E => rot .sra (.reg .e)
  | .sra_H => rot .sra (.reg .h)
  | .sra_L => rot .sra (.reg .l)
  | .sra_atHL => rot .sra .atHL
  | .sra_A => rot .sra (.reg .a)
  | .swap_B => rot .swap (.reg .b)
  | .swap_C => rot .swap (.reg .c)
  | .swap_D => rot .swap (.reg .d)
  | .swap_E => rot .swap (.reg .e)
  | .swap_H => rot .swap (.reg .h)
  | .swap_L => rot .swap (.reg .l)
  | .swap_atHL => rot .swap .atHL
  | .swap_A => rot .swap (.reg .a)
  | .srl_B => rot .srl (.reg .b)
  | .srl_C => rot .srl (.reg .c)
  | .srl_D => rot .srl (.reg .d)
  | .srl_E => rot .srl (.reg .e)
  | .srl_H => rot .srl (.reg .h)
  | .srl_L => rot .srl (.reg .l)
  | .srl_atHL => rot .srl .atHL
  | .srl_A => rot .srl (.reg .a)
  | .bit_0_B => bit .b0 (.reg .b)
  | .bit_0_C => bit .b0 (.reg .c)
  | .bit_0_D => bit .b0 (.reg .d)
  | .bit_0_E => bit .b0 (.reg .e)
  | .bit_0_H => bit .b0 (.reg .h)
  | .bit_0_L => bit .b0 (.reg .l)
  | .bit_0_atHL => bit .b0 .atHL
  | .bit_0_A => bit .b0 (.reg .a)
  | .bit_1_B => bit .b1 (.reg .b)
  | .bit_1_C => bit .b1 (.reg .c)
  | .bit_1_D => bit .b1 (.reg .d)
  | .bit_1_E => bit .b1 (.reg .e)
  | .bit_1_H => bit .b1 (.reg .h)
  | .bit_1_L => bit .b1 (.reg .l)
  | .bit_1_atHL => bit .b1 .atHL
  | .bit_1_A => bit .b1 (.reg .a)
  | .bit_2_B => bit .b2 (.reg .b)
  | .bit_2_C => bit .b2 (.reg .c)
  | .bit_2_D => bit .b2 (.reg .d)
  | .bit_2_E => bit .b2 (.reg .e)
  | .bit_2_H => bit .b2 (.reg .h)
  | .bit_2_L => bit .b2 (.reg .l)
  | .bit_2_atHL => bit .b2 .atHL
  | .bit_2_A => bit .b2 (.reg .a)
  | .bit_3_B => bit .b3 (.reg .b)
  | .bit_3_C => bit .b3 (.reg .c)
  | .bit_3_D => bit .b3 (.reg .d)
  | .bit_3_E => bit .b3 (.reg .e)
  | .bit_3_H => bit .b3 (.reg .h)
  | .bit_3_L => bit .b3 (.reg .l)
  | .bit_3_atHL => bit .b3 .atHL
  | .bit_3_A => bit .b3 (.reg .a)
  | .bit_4_B => bit .b4 (.reg .b)
  | .bit_4_C => bit .b4 (.reg .c)
  | .bit_4_D => bit .b4 (.reg .d)
  | .bit_4_E => bit .b4 (.reg .e)
  | .bit_4_H => bit .b4 (.reg .h)
  | .bit_4_L => bit .b4 (.reg .l)
  | .bit_4_atHL => bit .b4 .atHL
  | .bit_4_A => bit .b4 (.reg .a)
  | .bit_5_B => bit .b5 (.reg .b)
  | .bit_5_C => bit .b5 (.reg .c)
  | .bit_5_D => bit .b5 (.reg .d)
  | .bit_5_E => bit .b5 (.reg .e)
  | .bit_5_H => bit .b5 (.reg .h)
  | .bit_5_L => bit .b5 (.reg .l)
  | .bit_5_atHL => bit .b5 .atHL
  | .bit_5_A => bit .b5 (.reg .a)
  | .bit_6_B => bit .b6 (.reg .b)
  | .bit_6_C => bit .b6 (.reg .c)
  | .bit_6_D => bit .b6 (.reg .d)
  | .bit_6_E => bit .b6 (.reg .e)
  | .bit_6_H => bit .b6 (.reg .h)
  | .bit_6_L => bit .b6 (.reg .l)
  | .bit_6_atHL => bit .b6 .atHL
  | .bit_6_A => bit .b6 (.reg .a)
  | .bit_7_B => bit .b7 (.reg .b)
  | .bit_7_C => bit .b7 (.reg .c)
  | .bit_7_D => bit .b7 (.reg .d)
  | .bit_7_E => bit .b7 (.reg .e)
  | .bit_7_H => bit .b7 (.reg .h)
  | .bit_7_L => bit .b7 (.reg .l)
  | .bit_7_atHL => bit .b7 .atHL
  | .bit_7_A => bit .b7 (.reg .a)
  | .res_0_B => res .b0 (.reg .b)
  | .res_0_C => res .b0 (.reg .c)
  | .res_0_D => res .b0 (.reg .d)
  | .res_0_E => res .b0 (.reg .e)
  | .res_0_H => res .b0 (.reg .h)
  | .res_0_L => res .b0 (.reg .l)
  | .res_0_atHL => res .b0 .atHL
  | .res_0_A => res .b0 (.reg .a)
  | .res_1_B => res .b1 (.reg .b)
  | .res_1_C => res .b1 (.reg .c)
  | .res_1_D => res .b1 (.reg .d)
  | .res_1_E => res .b1 (.reg .e)
  | .res_1_H => res .b1 (.reg .h)
  | .res_1_L => res .b1 (.reg .l)
  | .res_1_atHL => res .b1 .atHL
  | .res_1_A => res .b1 (.reg .a)
  | .res_2_B => res .b2 (.reg .b)
  | .res_2_C => res .b2 (.reg .c)
  | .res_2_D => res .b2 (.reg .d)
  | .res_2_E => res .b2 (.reg .e)
  | .res_2_H => res .b2 (.reg .h)
  | .res_2_L => res .b2 (.reg .l)
  | .res_2_atHL => res .b2 .atHL
  | .res_2_A => res .b2 (.reg .a)
  | .res_3_B => res .b3 (.reg .b)
  | .res_3_C => res .b3 (.reg .c)
  | .res_3_D => res .b3 (.reg .d)
  | .res_3_E => res .b3 (.reg .e)
  | .res_3_H => res .b3 (.reg .h)
  | .res_3_L => res .b3 (.reg .l)
  | .res_3_atHL => res .b3 .atHL
  | .res_3_A => res .b3 (.reg .a)
  | .res_4_B => res .b4 (.reg .b)
  | .res_4_C => res .b4 (.reg .c)
  | .res_4_D => res .b4 (.reg .d)
  | .res_4_E => res .b4 (.reg .e)
  | .res_4_H => res .b4 (.reg .h)
  | .res_4_L => res .b4 (.reg .l)
  | .res_4_atHL => res .b4 .atHL
  | .res_4_A => res .b4 (.reg .a)
  | .res_5_B => res .b5 (.reg .b)
  | .res_5_C => res .b5 (.reg .c)
  | .res_5_D => res .b5 (.reg .d)
  | .res_5_E => res .b5 (.reg .e)
  | .res_5_H => res .b5 (.reg .h)
  | .res_5_L => res .b5 (.reg .l)
  | .res_5_atHL => res .b5 .atHL
  | .res_5_A => res .b5 (.reg .a)
  | .res_6_B => res .b6 (.reg .b)
  | .res_6_C => res .b6 (.reg .c)
  | .res_6_D => res .b6 (.reg .d)
  | .res_6_E => res .b6 (.reg .e)
  | .res_6_H => res .b6 (.reg .h)
  | .res_6_L => res .b6 (.reg .l)
  | .res_6_atHL => res .b6 .atHL
  | .res_6_A => res .b6 (.reg .a)
  | .res_7_B => res .b7 (.reg .b)
  | .res_7_C => res .b7 (.reg .c)
  | .res_7_D => res .b7 (.reg .d)
  | .res_7_E => res .b7 (.reg .e)
  | .res_7_H => res .b7 (.reg .h)
  | .res_7_L => res .b7 (.reg .l)
  | .res_7_atHL => res .b7 .atHL
  | .res_7_A => res .b7 (.reg .a)
  | .set_0_B => set .b0 (.reg .b)
  | .set_0_C => set .b0 (.reg .c)
  | .set_0_D => set .b0 (.reg .d)
  | .set_0_E => set .b0 (.reg .e)
  | .set_0_H => set .b0 (.reg .h)
  | .set_0_L => set .b0 (.reg .l)
  | .set_0_atHL => set .b0 .atHL
  | .set_0_A => set .b0 (.reg .a)
  | .set_1_B => set .b1 (.reg .b)
  | .set_1_C => set .b1 (.reg .c)
  | .set_1_D => set .b1 (.reg .d)
  | .set_1_E => set .b1 (.reg .e)
  | .set_1_H => set .b1 (.reg .h)
  | .set_1_L => set .b1 (.reg .l)
  | .set_1_atHL => set .b1 .atHL
  | .set_1_A => set .b1 (.reg .a)
  | .set_2_B => set .b2 (.reg .b)
  | .set_2_C => set .b2 (.reg .c)
  | .set_2_D => set .b2 (.reg .d)
  | .set_2_E => set .b2 (.reg .e)
  | .set_2_H => set .b2 (.reg .h)
  | .set_2_L => set .b2 (.reg .l)
  | .set_2_atHL => set .b2 .atHL
  | .set_2_A => set .b2 (.reg .a)
  | .set_3_B => set .b3 (.reg .b)
  | .set_3_C => set .b3 (.reg .c)
  | .set_3_D => set .b3 (.reg .d)
  | .set_3_E => set .b3 (.reg .e)
  | .set_3_H => set .b3 (.reg .h)
  | .set_3_L => set .b3 (.reg .l)
  | .set_3_atHL => set .b3 .atHL
  | .set_3_A => set .b3 (.reg .a)
  | .set_4_B => set .b4 (.reg .b)
  | .set_4_C => set .b4 (.reg .c)
  | .set_4_D => set .b4 (.reg .d)
  | .set_4_E => set .b4 (.reg .e)
  | .set_4_H => set .b4 (.reg .h)
  | .set_4_L => set .b4 (.reg .l)
  | .set_4_atHL => set .b4 .atHL
  | .set_4_A => set .b4 (.reg .a)
  | .set_5_B => set .b5 (.reg .b)
  | .set_5_C => set .b5 (.reg .c)
  | .set_5_D => set .b5 (.reg .d)
  | .set_5_E => set .b5 (.reg .e)
  | .set_5_H => set .b5 (.reg .h)
  | .set_5_L => set .b5 (.reg .l)
  | .set_5_atHL => set .b5 .atHL
  | .set_5_A => set .b5 (.reg .a)
  | .set_6_B => set .b6 (.reg .b)
  | .set_6_C => set .b6 (.reg .c)
  | .set_6_D => set .b6 (.reg .d)
  | .set_6_E => set .b6 (.reg .e)
  | .set_6_H => set .b6 (.reg .h)
  | .set_6_L => set .b6 (.reg .l)
  | .set_6_atHL => set .b6 .atHL
  | .set_6_A => set .b6 (.reg .a)
  | .set_7_B => set .b7 (.reg .b)
  | .set_7_C => set .b7 (.reg .c)
  | .set_7_D => set .b7 (.reg .d)
  | .set_7_E => set .b7 (.reg .e)
  | .set_7_H => set .b7 (.reg .h)
  | .set_7_L => set .b7 (.reg .l)
  | .set_7_atHL => set .b7 .atHL
  | .set_7_A => set .b7 (.reg .a)

end Sys2Proof.Machine
end

