-- ==== Sys2Proof/Laws/Flags.lean ====
section
/-! SUPPORT. The flag byte and the split of a word into its halves. -/

namespace Sys2Proof

@[simp] theorem hiByte_wordOf (hi lo : Byte) : hiByte (wordOf hi lo) = hi := by
  unfold hiByte wordOf
  ext i hi
  simp only [BitVec.getElem_extractLsb', BitVec.getLsbD_append]
  simp [show ¬ (8 + i < 8) by omega, BitVec.getLsbD_eq_getElem hi]

@[simp] theorem loByte_wordOf (hi lo : Byte) : loByte (wordOf hi lo) = lo := by
  unfold loByte wordOf
  ext i hi
  simp only [BitVec.getElem_extractLsb', BitVec.getLsbD_append]
  simp [hi]

@[simp] theorem wordOf_bytes (w : Word) : wordOf (hiByte w) (loByte w) = w := by
  unfold hiByte loByte wordOf
  ext i hi
  simp only [BitVec.getElem_append, BitVec.getElem_extractLsb']
  split
  · simp [BitVec.getLsbD_eq_getElem hi]
  · rw [show 8 + (i - 8) = i by omega, BitVec.getLsbD_eq_getElem hi]

theorem wordOf_toNat (hi lo : Byte) : (wordOf hi lo).toNat = hi.toNat * 256 + lo.toNat := by
  simp only [wordOf, BitVec.toNat_append]
  rw [← Nat.shiftLeft_add_eq_or_of_lt lo.isLt, Nat.shiftLeft_eq]

/-- Bit 7 of a byte as a comparison. -/
theorem getLsbD_seven (v : Byte) : v.getLsbD 7 = decide (128 ≤ v.toNat) := by
  have := v.isLt
  rw [BitVec.getLsbD, Nat.testBit, Nat.shiftRight_eq_div_pow, Bool.eq_iff_iff]
  simp
  omega

namespace Machine

/-- Every byte built from four flags has a zero low nibble (R23). -/
@[simp] theorem Flags.toByte_low (x : Flags) : x.toByte &&& 0x0F#8 = 0#8 := by
  rcases x with ⟨_ | _, _ | _, _ | _, _ | _⟩ <;> decide

@[simp] theorem Flags.ofByte_toByte (x : Flags) : Flags.ofByte x.toByte = x := by
  rcases x with ⟨_ | _, _ | _, _ | _, _ | _⟩ <;> decide

theorem Flags.toByte_getLsbD_low (x : Flags) (k : Nat) (hk : k < 4) : x.toByte.getLsbD k = false := by
  have h : k = 0 ∨ k = 1 ∨ k = 2 ∨ k = 3 := by omega
  rcases x with ⟨_ | _, _ | _, _ | _, _ | _⟩ <;> rcases h with rfl | rfl | rfl | rfl <;> decide

/-- The four flag bits of F (R24). -/
theorem Flags.toByte_bits (x : Flags) :
    x.toByte.getLsbD 7 = x.z ∧ x.toByte.getLsbD 6 = x.n ∧ x.toByte.getLsbD 5 = x.h ∧ x.toByte.getLsbD 4 = x.c := by
  rcases x with ⟨_ | _, _ | _, _ | _, _ | _⟩ <;> decide

/-- The low bits of a byte whose low nibble is zero. -/
theorem getLsbD_low_of_and (f : Byte) (h : f &&& 0x0F#8 = 0#8) (k : Nat) (hk : k < 4) : f.getLsbD k = false := by
  have hb : (f &&& 0x0F#8).getLsbD k = false := by rw [h]; exact BitVec.getLsbD_zero
  have hm : (0x0F#8 : Byte).getLsbD k = true := by
    have : k = 0 ∨ k = 1 ∨ k = 2 ∨ k = 3 := by omega
    rcases this with rfl | rfl | rfl | rfl <;> decide
  rwa [BitVec.getLsbD_and, hm, Bool.and_true] at hb

/-- A flag byte with a zero low nibble is the byte of its own flags (R24). -/
theorem Flags.toByte_ofByte (f : Byte) (h : f &&& 0x0F#8 = 0#8) : (Flags.ofByte f).toByte = f := by
  obtain ⟨h7, h6, h5, h4⟩ := Flags.toByte_bits (Flags.ofByte f)
  refine BitVec.eq_of_getLsbD_eq fun k hk => ?_
  rcases Nat.lt_or_ge k 4 with hlow | hhigh
  · rw [Flags.toByte_getLsbD_low _ k hlow, getLsbD_low_of_and f h k hlow]
  · have : k = 4 ∨ k = 5 ∨ k = 6 ∨ k = 7 := by omega
    rcases this with rfl | rfl | rfl | rfl
    · exact h4
    · exact h5
    · exact h6
    · exact h7

/-- A byte masked to its high nibble (R23). -/
@[simp] theorem and_high_low (v : Byte) : v &&& 0xF0#8 &&& 0x0F#8 = 0#8 := by
  rw [BitVec.and_assoc]; simp

/-- The flags assigned last are the flags read (R24, R25). -/
@[simp] theorem State.setFlags_flags (s : State) (x : Flags) : (s.setFlags x).flags = x := Flags.ofByte_toByte x

/-- `sext_16` as arithmetic (R7). -/
theorem sext16_toNat (v : Byte) : (sext16 v).toNat = if v.toNat < 128 then v.toNat else v.toNat + 0xFF00 := by
  unfold sext16
  rw [getLsbD_seven]
  by_cases h : v.toNat < 128
  · simp [h, wordOf_toNat, show ¬ 128 ≤ v.toNat by omega]
  · simp [h, wordOf_toNat, show 128 ≤ v.toNat by omega]
    omega

end Machine

end Sys2Proof
end

