-- ==== Sys2Proof/Laws/Memory.lean ====
section
/-! SUPPORT. The laws of the memory contents: a read after a write, and the canonical form that every operation keeps. -/

namespace Sys2Proof.Machine

theorem Memory.read_entry_same (k : Nat) (v : Byte) (m : Memory) (h : ∀ x ∈ m, k < x.1) :
    Memory.read (Memory.entry k v m) k = v := by
  unfold Memory.entry
  split
  case isFalse => simp [Memory.read]
  case isTrue hv =>
    subst hv
    induction m with
    | nil => rfl
    | cons x rest ih =>
      have hx : k < x.1 := h x (by simp)
      simpa [Memory.read, show x.1 ≠ k by omega] using ih fun y hy => h y (by simp [hy])

theorem Memory.read_entry_other (k j : Nat) (v : Byte) (m : Memory) (h : j ≠ k) :
    Memory.read (Memory.entry k v m) j = Memory.read m j := by
  unfold Memory.entry
  split <;> simp [Memory.read, Ne.symm h]

/-- A write leaves every other address alone, whatever the list. -/
theorem Memory.read_write_other (m : Memory) (k j : Nat) (v : Byte) (h : j ≠ k) :
    (m.write k v).read j = m.read j := by
  induction m with
  | nil => simpa [Memory.write] using Memory.read_entry_other k j v [] h
  | cons x rest ih =>
    obtain ⟨a, w⟩ := x
    unfold Memory.write
    split
    · exact Memory.read_entry_other k j v _ h
    · split
      · next hka => subst hka; rw [Memory.read_entry_other _ _ _ _ h]; simp [Memory.read, Ne.symm h]
      · simp [Memory.read, ih]

/-- A read after a write to the same address gives the byte written, on memory in canonical form. -/
theorem Memory.read_write_same (m : Memory) (k : Nat) (v : Byte) (hm : m.wf) : (m.write k v).read k = v := by
  obtain ⟨hs, -⟩ := hm
  induction m with
  | nil => exact Memory.read_entry_same k v [] (by simp)
  | cons x rest ih =>
    obtain ⟨a, w⟩ := x
    obtain ⟨hlt, hs'⟩ := List.pairwise_cons.1 hs
    unfold Memory.write
    split
    case isTrue hka =>
      refine Memory.read_entry_same k v _ ?_
      intro y hy
      rcases List.mem_cons.1 hy with rfl | hy
      · exact hka
      · exact Nat.lt_trans hka (hlt y hy)
    case isFalse hka =>
      split
      case isTrue h => subst h; exact Memory.read_entry_same _ v rest hlt
      case isFalse h => simpa [Memory.read, show a ≠ k by omega] using ih hs'

theorem Memory.mem_entry {k : Nat} {v : Byte} {m : Memory} {x : Host.Cell} (h : x ∈ Memory.entry k v m) :
    (x = (k, v) ∧ v ≠ unlistedByte) ∨ x ∈ m := by
  unfold Memory.entry at h
  split at h
  · exact .inr h
  · rcases List.mem_cons.1 h with h | h
    · exact .inl ⟨h, by assumption⟩
    · exact .inr h

theorem Memory.mem_write {m : Memory} {k : Nat} {v : Byte} {x : Host.Cell} (h : x ∈ m.write k v) :
    (x = (k, v) ∧ v ≠ unlistedByte) ∨ x ∈ m := by
  induction m with
  | nil => exact Memory.mem_entry h
  | cons y rest ih =>
    unfold Memory.write at h
    split at h
    · exact Memory.mem_entry h
    · split at h
      · exact (Memory.mem_entry h).imp_right (List.mem_cons_of_mem _)
      · rcases List.mem_cons.1 h with rfl | h
        · exact .inr (by simp)
        · exact (ih h).imp_right (List.mem_cons_of_mem _)

theorem Memory.entry_sorted {k : Nat} {v : Byte} {m : Memory} (hm : m.Pairwise (fun x y => x.1 < y.1))
    (h : ∀ x ∈ m, k < x.1) : (Memory.entry k v m).Pairwise (fun x y => x.1 < y.1) := by
  unfold Memory.entry
  split
  · exact hm
  · exact List.pairwise_cons.2 ⟨h, hm⟩

theorem Memory.write_sorted (m : Memory) (k : Nat) (v : Byte) (hm : m.Pairwise (fun x y => x.1 < y.1)) :
    (m.write k v).Pairwise (fun x y => x.1 < y.1) := by
  induction m with
  | nil => exact Memory.entry_sorted hm (by simp)
  | cons x rest ih =>
    obtain ⟨a, w⟩ := x
    obtain ⟨hlt, hs'⟩ := List.pairwise_cons.1 hm
    unfold Memory.write
    split
    case isTrue hka =>
      refine Memory.entry_sorted hm ?_
      intro y hy
      rcases List.mem_cons.1 hy with rfl | hy
      · exact hka
      · exact Nat.lt_trans hka (hlt y hy)
    case isFalse hka =>
      split
      case isTrue h => subst h; exact Memory.entry_sorted hs' hlt
      case isFalse h =>
        refine List.pairwise_cons.2 ⟨fun y hy => ?_, ih hs'⟩
        rcases Memory.mem_write hy with ⟨rfl, -⟩ | hy
        · show a < k; omega
        · exact hlt y hy

/-- A write keeps the canonical form. -/
theorem Memory.write_wf (m : Memory) (k : Nat) (v : Byte) (hm : m.wf) (hk : k < 65536) : (m.write k v).wf := by
  refine ⟨Memory.write_sorted m k v hm.1, fun x hx => ?_⟩
  rcases Memory.mem_write hx with ⟨rfl, hv⟩ | hx
  · exact ⟨hk, hv⟩
  · exact hm.2 x hx

theorem Memory.read_of_all_gt {m : Memory} {k : Nat} (h : ∀ x ∈ m, k < x.1) : m.read k = unlistedByte := by
  induction m with
  | nil => rfl
  | cons x rest ih =>
    have hx : k < x.1 := h x (by simp)
    simpa [Memory.read, show x.1 ≠ k by omega] using ih fun y hy => h y (by simp [hy])

/-- Memories in canonical form that read alike are equal. -/
theorem Memory.ext_of_read (m n : Memory) (hm : m.wf) (hn : n.wf) (h : ∀ k, m.read k = n.read k) : m = n := by
  induction m generalizing n with
  | nil =>
    cases n with
    | nil => rfl
    | cons y _ => exact absurd (by simpa [Memory.read] using (h y.1).symm) (hn.2 y (by simp)).2
  | cons x rest ih =>
    obtain ⟨hxl, hxs⟩ := List.pairwise_cons.1 hm.1
    have hxv := (hm.2 x (by simp)).2
    cases n with
    | nil => exact absurd (by simpa [Memory.read] using h x.1) hxv
    | cons y rest' =>
      obtain ⟨hyl, hys⟩ := List.pairwise_cons.1 hn.1
      have hyv := (hn.2 y (by simp)).2
      have hkey : x.1 = y.1 := by
        rcases Nat.lt_trichotomy x.1 y.1 with hlt | heq | hgt
        · refine absurd ?_ hxv
          have hr : Memory.read (y :: rest') x.1 = unlistedByte := Memory.read_of_all_gt fun z hz => by
            rcases List.mem_cons.1 hz with rfl | hz
            · exact hlt
            · exact Nat.lt_trans hlt (hyl z hz)
          simpa [Memory.read] using (h x.1).trans hr
        · exact heq
        · refine absurd ?_ hyv
          have hr : Memory.read (x :: rest) y.1 = unlistedByte := Memory.read_of_all_gt fun z hz => by
            rcases List.mem_cons.1 hz with rfl | hz
            · exact hgt
            · exact Nat.lt_trans hgt (hxl z hz)
          simpa [Memory.read] using (h y.1).symm.trans hr
      obtain ⟨k, v⟩ := x
      obtain ⟨k', v'⟩ := y
      simp only at hkey
      subst hkey
      have hval : v = v' := by simpa [Memory.read] using h k
      subst hval
      refine congrArg _ (ih rest' ⟨hxs, fun z hz => hm.2 z (by simp [hz])⟩ ⟨hys, fun z hz => hn.2 z (by simp [hz])⟩ ?_)
      intro j
      by_cases hj : j = k
      · subst hj
        rw [Memory.read_of_all_gt hxl, Memory.read_of_all_gt hyl]
      · simpa [Memory.read, Ne.symm hj] using h j

/-- A byte read after a memory write of a state whose memory is in canonical form. -/
theorem State.memWrite_byteAt (s : State) (hm : s.mem.wf) (a x : Word) (v : Byte) :
    (s.memWrite a v).byteAt x = if x = a then v else s.byteAt x := by
  unfold State.byteAt State.memWrite
  split
  · next h => subst h; exact Memory.read_write_same _ _ _ hm
  · next h => exact Memory.read_write_other _ _ _ _ fun he => h (BitVec.eq_of_toNat_eq he)

/-- The bytes outside the one written, whatever the memory. -/
theorem State.memWrite_byteAt_other (s : State) (a x : Word) (v : Byte) (h : x ≠ a) :
    (s.memWrite a v).byteAt x = s.byteAt x :=
  Memory.read_write_other _ _ _ _ fun he => h (BitVec.eq_of_toNat_eq he)

theorem State.memWrite_wf (s : State) (hm : s.mem.wf) (a : Word) (v : Byte) : (s.memWrite a v).mem.wf :=
  Memory.write_wf _ _ _ hm a.isLt

end Sys2Proof.Machine
end

