-- ==== Sys2Proof/Laws/State.lean ====
section
/-! SUPPORT. One lemma per field per state update, true by unfolding, so that no proof unfolds a record update again. -/

namespace Sys2Proof.Machine

variable (s : State)

@[simp] theorem State.setReg_f (r : Reg8) (v : Byte) : (s.setReg r v).f = s.f := by cases r <;> rfl
@[simp] theorem State.setReg_pc (r : Reg8) (v : Byte) : (s.setReg r v).pc = s.pc := by cases r <;> rfl
@[simp] theorem State.setReg_sp (r : Reg8) (v : Byte) : (s.setReg r v).sp = s.sp := by cases r <;> rfl
@[simp] theorem State.setReg_mode (r : Reg8) (v : Byte) : (s.setReg r v).mode = s.mode := by cases r <;> rfl
@[simp] theorem State.setReg_ime (r : Reg8) (v : Byte) : (s.setReg r v).ime = s.ime := by cases r <;> rfl
@[simp] theorem State.setReg_run (r : Reg8) (v : Byte) : (s.setReg r v).run = s.run := by cases r <;> rfl
@[simp] theorem State.setReg_mem (r : Reg8) (v : Byte) : (s.setReg r v).mem = s.mem := by cases r <;> rfl
@[simp] theorem State.setReg_bus (r : Reg8) (v : Byte) : (s.setReg r v).bus = s.bus := by cases r <;> rfl
@[simp] theorem State.setReg_busReads (r : Reg8) (v : Byte) : (s.setReg r v).busReads = s.busReads := by cases r <;> rfl
@[simp] theorem State.setReg_params (r : Reg8) (v : Byte) : (s.setReg r v).params = s.params := by cases r <;> rfl
@[simp] theorem State.setReg_reg (r : Reg8) (v : Byte) (r' : Reg8) : (s.setReg r v).reg r' = if r' = r then v else s.reg r' := by
  cases r <;> cases r' <;> rfl
@[simp] theorem State.setReg_same (r : Reg8) (v : Byte) : (s.setReg r v).reg r = v := by simp
@[simp] theorem State.setReg_flags (r : Reg8) (v : Byte) : (s.setReg r v).flags = s.flags := by cases r <;> rfl
@[simp] theorem State.setReg_upcoming (r : Reg8) (v : Byte) (k : Nat) (y : Word) : (s.setReg r v).upcoming k y = s.upcoming k y := by cases r <;> rfl
@[simp] theorem State.setReg_byteAt (r : Reg8) (v : Byte) (y : Word) : (s.setReg r v).byteAt y = s.byteAt y := by cases r <;> rfl

@[simp] theorem State.setPair_f (p : Pair) (w : Word) : (s.setPair p w).f = s.f := by cases p <;> rfl
@[simp] theorem State.setPair_pc (p : Pair) (w : Word) : (s.setPair p w).pc = s.pc := by cases p <;> rfl
@[simp] theorem State.setPair_sp (p : Pair) (w : Word) : (s.setPair p w).sp = if p = .sp then w else s.sp := by cases p <;> rfl
@[simp] theorem State.setPair_mode (p : Pair) (w : Word) : (s.setPair p w).mode = s.mode := by cases p <;> rfl
@[simp] theorem State.setPair_ime (p : Pair) (w : Word) : (s.setPair p w).ime = s.ime := by cases p <;> rfl
@[simp] theorem State.setPair_run (p : Pair) (w : Word) : (s.setPair p w).run = s.run := by cases p <;> rfl
@[simp] theorem State.setPair_mem (p : Pair) (w : Word) : (s.setPair p w).mem = s.mem := by cases p <;> rfl
@[simp] theorem State.setPair_bus (p : Pair) (w : Word) : (s.setPair p w).bus = s.bus := by cases p <;> rfl
@[simp] theorem State.setPair_busReads (p : Pair) (w : Word) : (s.setPair p w).busReads = s.busReads := by cases p <;> rfl
@[simp] theorem State.setPair_params (p : Pair) (w : Word) : (s.setPair p w).params = s.params := by cases p <;> rfl
@[simp] theorem State.setPair_bc_b (w : Word) : (s.setPair .bc w).reg .b = hiByte w := rfl
@[simp] theorem State.setPair_bc_c (w : Word) : (s.setPair .bc w).reg .c = loByte w := rfl
@[simp] theorem State.setPair_bc_d (w : Word) : (s.setPair .bc w).reg .d = s.reg .d := rfl
@[simp] theorem State.setPair_bc_e (w : Word) : (s.setPair .bc w).reg .e = s.reg .e := rfl
@[simp] theorem State.setPair_bc_h (w : Word) : (s.setPair .bc w).reg .h = s.reg .h := rfl
@[simp] theorem State.setPair_bc_l (w : Word) : (s.setPair .bc w).reg .l = s.reg .l := rfl
@[simp] theorem State.setPair_bc_a (w : Word) : (s.setPair .bc w).reg .a = s.reg .a := rfl
@[simp] theorem State.setPair_de_b (w : Word) : (s.setPair .de w).reg .b = s.reg .b := rfl
@[simp] theorem State.setPair_de_c (w : Word) : (s.setPair .de w).reg .c = s.reg .c := rfl
@[simp] theorem State.setPair_de_d (w : Word) : (s.setPair .de w).reg .d = hiByte w := rfl
@[simp] theorem State.setPair_de_e (w : Word) : (s.setPair .de w).reg .e = loByte w := rfl
@[simp] theorem State.setPair_de_h (w : Word) : (s.setPair .de w).reg .h = s.reg .h := rfl
@[simp] theorem State.setPair_de_l (w : Word) : (s.setPair .de w).reg .l = s.reg .l := rfl
@[simp] theorem State.setPair_de_a (w : Word) : (s.setPair .de w).reg .a = s.reg .a := rfl
@[simp] theorem State.setPair_hl_b (w : Word) : (s.setPair .hl w).reg .b = s.reg .b := rfl
@[simp] theorem State.setPair_hl_c (w : Word) : (s.setPair .hl w).reg .c = s.reg .c := rfl
@[simp] theorem State.setPair_hl_d (w : Word) : (s.setPair .hl w).reg .d = s.reg .d := rfl
@[simp] theorem State.setPair_hl_e (w : Word) : (s.setPair .hl w).reg .e = s.reg .e := rfl
@[simp] theorem State.setPair_hl_h (w : Word) : (s.setPair .hl w).reg .h = hiByte w := rfl
@[simp] theorem State.setPair_hl_l (w : Word) : (s.setPair .hl w).reg .l = loByte w := rfl
@[simp] theorem State.setPair_hl_a (w : Word) : (s.setPair .hl w).reg .a = s.reg .a := rfl
@[simp] theorem State.setPair_sp_reg (w : Word) (r : Reg8) : (s.setPair .sp w).reg r = s.reg r := by cases r <;> rfl
@[simp] theorem State.setPair_flags (p : Pair) (w : Word) : (s.setPair p w).flags = s.flags := by cases p <;> rfl
@[simp] theorem State.setPair_upcoming (p : Pair) (w : Word) (k : Nat) (y : Word) : (s.setPair p w).upcoming k y = s.upcoming k y := by cases p <;> rfl
@[simp] theorem State.setPair_byteAt (p : Pair) (w : Word) (y : Word) : (s.setPair p w).byteAt y = s.byteAt y := by cases p <;> rfl

@[simp] theorem State.setStackPair_f (q : StackPair) (w : Word) : (s.setStackPair q w).f = if q = .af then loByte w &&& 0xF0#8 else s.f := by cases q <;> rfl
@[simp] theorem State.setStackPair_pc (q : StackPair) (w : Word) : (s.setStackPair q w).pc = s.pc := by cases q <;> rfl
@[simp] theorem State.setStackPair_sp (q : StackPair) (w : Word) : (s.setStackPair q w).sp = s.sp := by cases q <;> rfl
@[simp] theorem State.setStackPair_mode (q : StackPair) (w : Word) : (s.setStackPair q w).mode = s.mode := by cases q <;> rfl
@[simp] theorem State.setStackPair_ime (q : StackPair) (w : Word) : (s.setStackPair q w).ime = s.ime := by cases q <;> rfl
@[simp] theorem State.setStackPair_run (q : StackPair) (w : Word) : (s.setStackPair q w).run = s.run := by cases q <;> rfl
@[simp] theorem State.setStackPair_mem (q : StackPair) (w : Word) : (s.setStackPair q w).mem = s.mem := by cases q <;> rfl
@[simp] theorem State.setStackPair_bus (q : StackPair) (w : Word) : (s.setStackPair q w).bus = s.bus := by cases q <;> rfl
@[simp] theorem State.setStackPair_busReads (q : StackPair) (w : Word) : (s.setStackPair q w).busReads = s.busReads := by cases q <;> rfl
@[simp] theorem State.setStackPair_params (q : StackPair) (w : Word) : (s.setStackPair q w).params = s.params := by cases q <;> rfl
@[simp] theorem State.setStackPair_af_b (w : Word) : (s.setStackPair .af w).reg .b = s.reg .b := rfl
@[simp] theorem State.setStackPair_af_c (w : Word) : (s.setStackPair .af w).reg .c = s.reg .c := rfl
@[simp] theorem State.setStackPair_af_d (w : Word) : (s.setStackPair .af w).reg .d = s.reg .d := rfl
@[simp] theorem State.setStackPair_af_e (w : Word) : (s.setStackPair .af w).reg .e = s.reg .e := rfl
@[simp] theorem State.setStackPair_af_h (w : Word) : (s.setStackPair .af w).reg .h = s.reg .h := rfl
@[simp] theorem State.setStackPair_af_l (w : Word) : (s.setStackPair .af w).reg .l = s.reg .l := rfl
@[simp] theorem State.setStackPair_af_a (w : Word) : (s.setStackPair .af w).reg .a = hiByte w := rfl
@[simp] theorem State.setStackPair_bc (w : Word) : s.setStackPair .bc w = s.setPair .bc w := rfl
@[simp] theorem State.setStackPair_de (w : Word) : s.setStackPair .de w = s.setPair .de w := rfl
@[simp] theorem State.setStackPair_hl (w : Word) : s.setStackPair .hl w = s.setPair .hl w := rfl
@[simp] theorem State.setStackPair_upcoming (q : StackPair) (w : Word) (k : Nat) (y : Word) : (s.setStackPair q w).upcoming k y = s.upcoming k y := by cases q <;> rfl
@[simp] theorem State.setStackPair_byteAt (q : StackPair) (w : Word) (y : Word) : (s.setStackPair q w).byteAt y = s.byteAt y := by cases q <;> rfl

@[simp] theorem State.setFlags_f (x : Flags) : (s.setFlags x).f = x.toByte := rfl
@[simp] theorem State.setFlags_pc (x : Flags) : (s.setFlags x).pc = s.pc := rfl
@[simp] theorem State.setFlags_sp (x : Flags) : (s.setFlags x).sp = s.sp := rfl
@[simp] theorem State.setFlags_mode (x : Flags) : (s.setFlags x).mode = s.mode := rfl
@[simp] theorem State.setFlags_ime (x : Flags) : (s.setFlags x).ime = s.ime := rfl
@[simp] theorem State.setFlags_run (x : Flags) : (s.setFlags x).run = s.run := rfl
@[simp] theorem State.setFlags_mem (x : Flags) : (s.setFlags x).mem = s.mem := rfl
@[simp] theorem State.setFlags_bus (x : Flags) : (s.setFlags x).bus = s.bus := rfl
@[simp] theorem State.setFlags_busReads (x : Flags) : (s.setFlags x).busReads = s.busReads := rfl
@[simp] theorem State.setFlags_params (x : Flags) : (s.setFlags x).params = s.params := rfl
@[simp] theorem State.setFlags_reg (x : Flags) (r' : Reg8) : (s.setFlags x).reg r' = s.reg r' := by cases r' <;> rfl
@[simp] theorem State.setFlags_pair (x : Flags) (p' : Pair) : (s.setFlags x).pair p' = s.pair p' := by cases p' <;> rfl
@[simp] theorem State.setFlags_upcoming (x : Flags) (k : Nat) (y : Word) : (s.setFlags x).upcoming k y = s.upcoming k y := rfl
@[simp] theorem State.setFlags_byteAt (x : Flags) (y : Word) : (s.setFlags x).byteAt y = s.byteAt y := rfl

@[simp] theorem State.jump_f (w : Word) : (s.jump w).f = s.f := rfl
@[simp] theorem State.jump_pc (w : Word) : (s.jump w).pc = w := rfl
@[simp] theorem State.jump_sp (w : Word) : (s.jump w).sp = s.sp := rfl
@[simp] theorem State.jump_mode (w : Word) : (s.jump w).mode = s.mode := rfl
@[simp] theorem State.jump_ime (w : Word) : (s.jump w).ime = s.ime := rfl
@[simp] theorem State.jump_run (w : Word) : (s.jump w).run = s.run := rfl
@[simp] theorem State.jump_mem (w : Word) : (s.jump w).mem = s.mem := rfl
@[simp] theorem State.jump_bus (w : Word) : (s.jump w).bus = s.bus := rfl
@[simp] theorem State.jump_busReads (w : Word) : (s.jump w).busReads = s.busReads := rfl
@[simp] theorem State.jump_params (w : Word) : (s.jump w).params = s.params := rfl
@[simp] theorem State.jump_reg (w : Word) (r' : Reg8) : (s.jump w).reg r' = s.reg r' := by cases r' <;> rfl
@[simp] theorem State.jump_pair (w : Word) (p' : Pair) : (s.jump w).pair p' = s.pair p' := by cases p' <;> rfl
@[simp] theorem State.jump_stackPair (w : Word) (p' : StackPair) : (s.jump w).stackPair p' = s.stackPair p' := by cases p' <;> rfl
@[simp] theorem State.jump_flags (w : Word) : (s.jump w).flags = s.flags := rfl
@[simp] theorem State.jump_upcoming (w : Word) (k : Nat) (y : Word) : (s.jump w).upcoming k y = s.upcoming k y := rfl
@[simp] theorem State.jump_byteAt (w : Word) (y : Word) : (s.jump w).byteAt y = s.byteAt y := rfl

@[simp] theorem State.afterRead_f (a : Word) : (s.afterRead a).f = s.f := rfl
@[simp] theorem State.afterRead_pc (a : Word) : (s.afterRead a).pc = s.pc := rfl
@[simp] theorem State.afterRead_sp (a : Word) : (s.afterRead a).sp = s.sp := rfl
@[simp] theorem State.afterRead_mode (a : Word) : (s.afterRead a).mode = s.mode := rfl
@[simp] theorem State.afterRead_ime (a : Word) : (s.afterRead a).ime = s.ime := rfl
@[simp] theorem State.afterRead_run (a : Word) : (s.afterRead a).run = s.run := rfl
@[simp] theorem State.afterRead_mem (a : Word) : (s.afterRead a).mem = s.mem := rfl
@[simp] theorem State.afterRead_bus (a : Word) : (s.afterRead a).bus = s.bus ++ [.read a (s.upcoming 0 a)] := rfl
@[simp] theorem State.afterRead_params (a : Word) : (s.afterRead a).params = s.params := rfl
@[simp] theorem State.afterRead_reg (a : Word) (r' : Reg8) : (s.afterRead a).reg r' = s.reg r' := by cases r' <;> rfl
@[simp] theorem State.afterRead_pair (a : Word) (p' : Pair) : (s.afterRead a).pair p' = s.pair p' := by cases p' <;> rfl
@[simp] theorem State.afterRead_stackPair (a : Word) (p' : StackPair) : (s.afterRead a).stackPair p' = s.stackPair p' := by cases p' <;> rfl
@[simp] theorem State.afterRead_flags (a : Word) : (s.afterRead a).flags = s.flags := rfl
@[simp] theorem State.afterRead_byteAt (a : Word) (y : Word) : (s.afterRead a).byteAt y = s.byteAt y := rfl

@[simp] theorem State.memWrite_f (a : Word) (v : Byte) : (s.memWrite a v).f = s.f := rfl
@[simp] theorem State.memWrite_pc (a : Word) (v : Byte) : (s.memWrite a v).pc = s.pc := rfl
@[simp] theorem State.memWrite_sp (a : Word) (v : Byte) : (s.memWrite a v).sp = s.sp := rfl
@[simp] theorem State.memWrite_mode (a : Word) (v : Byte) : (s.memWrite a v).mode = s.mode := rfl
@[simp] theorem State.memWrite_ime (a : Word) (v : Byte) : (s.memWrite a v).ime = s.ime := rfl
@[simp] theorem State.memWrite_run (a : Word) (v : Byte) : (s.memWrite a v).run = s.run := rfl
@[simp] theorem State.memWrite_mem (a : Word) (v : Byte) : (s.memWrite a v).mem = s.mem.write a.toNat v := rfl
@[simp] theorem State.memWrite_bus (a : Word) (v : Byte) : (s.memWrite a v).bus = s.bus ++ [.write a v] := rfl
@[simp] theorem State.memWrite_busReads (a : Word) (v : Byte) : (s.memWrite a v).busReads = s.busReads := rfl
@[simp] theorem State.memWrite_params (a : Word) (v : Byte) : (s.memWrite a v).params = s.params := rfl
@[simp] theorem State.memWrite_reg (a : Word) (v : Byte) (r' : Reg8) : (s.memWrite a v).reg r' = s.reg r' := by cases r' <;> rfl
@[simp] theorem State.memWrite_pair (a : Word) (v : Byte) (p' : Pair) : (s.memWrite a v).pair p' = s.pair p' := by cases p' <;> rfl
@[simp] theorem State.memWrite_stackPair (a : Word) (v : Byte) (p' : StackPair) : (s.memWrite a v).stackPair p' = s.stackPair p' := by cases p' <;> rfl
@[simp] theorem State.memWrite_flags (a : Word) (v : Byte) : (s.memWrite a v).flags = s.flags := rfl

@[simp] theorem State.setIme_f (v : Bool) : (s.setIme v).f = s.f := rfl
@[simp] theorem State.setIme_pc (v : Bool) : (s.setIme v).pc = s.pc := rfl
@[simp] theorem State.setIme_sp (v : Bool) : (s.setIme v).sp = s.sp := rfl
@[simp] theorem State.setIme_mode (v : Bool) : (s.setIme v).mode = s.mode := rfl
@[simp] theorem State.setIme_ime (v : Bool) : (s.setIme v).ime = v := rfl
@[simp] theorem State.setIme_run (v : Bool) : (s.setIme v).run = s.run := rfl
@[simp] theorem State.setIme_mem (v : Bool) : (s.setIme v).mem = s.mem := rfl
@[simp] theorem State.setIme_bus (v : Bool) : (s.setIme v).bus = s.bus := rfl
@[simp] theorem State.setIme_busReads (v : Bool) : (s.setIme v).busReads = s.busReads := rfl
@[simp] theorem State.setIme_params (v : Bool) : (s.setIme v).params = s.params := rfl
@[simp] theorem State.setIme_reg (v : Bool) (r' : Reg8) : (s.setIme v).reg r' = s.reg r' := by cases r' <;> rfl
@[simp] theorem State.setIme_pair (v : Bool) (p' : Pair) : (s.setIme v).pair p' = s.pair p' := by cases p' <;> rfl
@[simp] theorem State.setIme_stackPair (v : Bool) (p' : StackPair) : (s.setIme v).stackPair p' = s.stackPair p' := by cases p' <;> rfl
@[simp] theorem State.setIme_flags (v : Bool) : (s.setIme v).flags = s.flags := rfl
@[simp] theorem State.setIme_upcoming (v : Bool) (k : Nat) (y : Word) : (s.setIme v).upcoming k y = s.upcoming k y := rfl
@[simp] theorem State.setIme_byteAt (v : Bool) (y : Word) : (s.setIme v).byteAt y = s.byteAt y := rfl

@[simp] theorem State.setRun_f (r : RunState) : (s.setRun r).f = s.f := rfl
@[simp] theorem State.setRun_pc (r : RunState) : (s.setRun r).pc = s.pc := rfl
@[simp] theorem State.setRun_sp (r : RunState) : (s.setRun r).sp = s.sp := rfl
@[simp] theorem State.setRun_mode (r : RunState) : (s.setRun r).mode = s.mode := rfl
@[simp] theorem State.setRun_ime (r : RunState) : (s.setRun r).ime = s.ime := rfl
@[simp] theorem State.setRun_run (r : RunState) : (s.setRun r).run = r := rfl
@[simp] theorem State.setRun_mem (r : RunState) : (s.setRun r).mem = s.mem := rfl
@[simp] theorem State.setRun_bus (r : RunState) : (s.setRun r).bus = s.bus := rfl
@[simp] theorem State.setRun_busReads (r : RunState) : (s.setRun r).busReads = s.busReads := rfl
@[simp] theorem State.setRun_params (r : RunState) : (s.setRun r).params = s.params := rfl
@[simp] theorem State.setRun_reg (r : RunState) (r' : Reg8) : (s.setRun r).reg r' = s.reg r' := by cases r' <;> rfl
@[simp] theorem State.setRun_pair (r : RunState) (p' : Pair) : (s.setRun r).pair p' = s.pair p' := by cases p' <;> rfl
@[simp] theorem State.setRun_stackPair (r : RunState) (p' : StackPair) : (s.setRun r).stackPair p' = s.stackPair p' := by cases p' <;> rfl
@[simp] theorem State.setRun_flags (r : RunState) : (s.setRun r).flags = s.flags := rfl
@[simp] theorem State.setRun_upcoming (r : RunState) (k : Nat) (y : Word) : (s.setRun r).upcoming k y = s.upcoming k y := rfl
@[simp] theorem State.setRun_byteAt (r : RunState) (y : Word) : (s.setRun r).byteAt y = s.byteAt y := rfl

@[simp] theorem State.setMode_f (m : DecodeMode) : (s.setMode m).f = s.f := rfl
@[simp] theorem State.setMode_pc (m : DecodeMode) : (s.setMode m).pc = s.pc := rfl
@[simp] theorem State.setMode_sp (m : DecodeMode) : (s.setMode m).sp = s.sp := rfl
@[simp] theorem State.setMode_mode (m : DecodeMode) : (s.setMode m).mode = m := rfl
@[simp] theorem State.setMode_ime (m : DecodeMode) : (s.setMode m).ime = s.ime := rfl
@[simp] theorem State.setMode_run (m : DecodeMode) : (s.setMode m).run = s.run := rfl
@[simp] theorem State.setMode_mem (m : DecodeMode) : (s.setMode m).mem = s.mem := rfl
@[simp] theorem State.setMode_bus (m : DecodeMode) : (s.setMode m).bus = s.bus := rfl
@[simp] theorem State.setMode_busReads (m : DecodeMode) : (s.setMode m).busReads = s.busReads := rfl
@[simp] theorem State.setMode_params (m : DecodeMode) : (s.setMode m).params = s.params := rfl
@[simp] theorem State.setMode_reg (m : DecodeMode) (r' : Reg8) : (s.setMode m).reg r' = s.reg r' := by cases r' <;> rfl
@[simp] theorem State.setMode_pair (m : DecodeMode) (p' : Pair) : (s.setMode m).pair p' = s.pair p' := by cases p' <;> rfl
@[simp] theorem State.setMode_stackPair (m : DecodeMode) (p' : StackPair) : (s.setMode m).stackPair p' = s.stackPair p' := by cases p' <;> rfl
@[simp] theorem State.setMode_flags (m : DecodeMode) : (s.setMode m).flags = s.flags := rfl
@[simp] theorem State.setMode_upcoming (m : DecodeMode) (k : Nat) (y : Word) : (s.setMode m).upcoming k y = s.upcoming k y := rfl
@[simp] theorem State.setMode_byteAt (m : DecodeMode) (y : Word) : (s.setMode m).byteAt y = s.byteAt y := rfl

@[simp] theorem State.beginStep_f : s.beginStep.f = s.f := rfl
@[simp] theorem State.beginStep_pc : s.beginStep.pc = s.pc := rfl
@[simp] theorem State.beginStep_sp : s.beginStep.sp = s.sp := rfl
@[simp] theorem State.beginStep_mode : s.beginStep.mode = s.mode := rfl
@[simp] theorem State.beginStep_ime : s.beginStep.ime = s.ime := rfl
@[simp] theorem State.beginStep_run : s.beginStep.run = s.run := rfl
@[simp] theorem State.beginStep_mem : s.beginStep.mem = s.mem := rfl
@[simp] theorem State.beginStep_bus : s.beginStep.bus = [] := rfl
@[simp] theorem State.beginStep_busReads : s.beginStep.busReads = s.busReads := rfl
@[simp] theorem State.beginStep_params : s.beginStep.params = s.params := rfl
@[simp] theorem State.beginStep_reg (r' : Reg8) : s.beginStep.reg r' = s.reg r' := by cases r' <;> rfl
@[simp] theorem State.beginStep_pair (p' : Pair) : s.beginStep.pair p' = s.pair p' := by cases p' <;> rfl
@[simp] theorem State.beginStep_stackPair (p' : StackPair) : s.beginStep.stackPair p' = s.stackPair p' := by cases p' <;> rfl
@[simp] theorem State.beginStep_flags : s.beginStep.flags = s.flags := rfl
@[simp] theorem State.beginStep_upcoming (k : Nat) (y : Word) : s.beginStep.upcoming k y = s.upcoming k y := rfl
@[simp] theorem State.beginStep_byteAt (y : Word) : s.beginStep.byteAt y = s.byteAt y := rfl

/-! Each register field is `reg` of its name, the spelling every lemma above uses. -/

theorem State.a_eq_reg : s.a = s.reg .a := rfl
theorem State.b_eq_reg : s.b = s.reg .b := rfl
theorem State.c_eq_reg : s.c = s.reg .c := rfl
theorem State.d_eq_reg : s.d = s.reg .d := rfl
theorem State.e_eq_reg : s.e = s.reg .e := rfl
theorem State.h_eq_reg : s.h = s.reg .h := rfl
theorem State.l_eq_reg : s.l = s.reg .l := rfl

/-- Writing a register with what it holds changes nothing. -/
@[simp] theorem State.setReg_self (r : Reg8) : s.setReg r (s.reg r) = s := by cases r <;> rfl

@[simp] theorem State.memRead_value (a : Word) : (s.memRead a).1 = s.upcoming 0 a := rfl
@[simp] theorem State.memRead_state (a : Word) : (s.memRead a).2 = s.afterRead a := rfl

/-- What a read returns depends on the earlier reads of a step only by their number. -/
@[simp] theorem State.afterRead_upcoming (a : Word) (k : Nat) (x : Word) :
    (s.afterRead a).upcoming k x = s.upcoming (k + 1) x := by
  cases h : s.params.memory <;> simp [State.upcoming, State.afterRead, State.byteAt, h, Nat.add_assoc, Nat.add_comm 1]

/-- In plain RAM the next read at an address returns the byte held there. -/
theorem State.upcoming_ram (h : s.params.memory = .ram) (k : Nat) (x : Word) : s.upcoming k x = s.byteAt x := by
  simp [State.upcoming, h]

theorem State.afterRead_busReads_ram (h : s.params.memory = .ram) (a : Word) : (s.afterRead a).busReads = s.busReads := by
  simp [State.afterRead, h]

end Sys2Proof.Machine
end

