-- ==== Sys2Proof/Laws/Ops.lean ====
section
/-! SUPPORT. For each shared operation one lemma that says all it does: fetching a byte, the stack primitives, the operand
forms. -/

namespace Sys2Proof.Machine

variable (s : State)

/-! ## Fetching a byte (R106) -/

@[simp] theorem State.fetch8_value : s.fetch8.1 = s.upcoming 0 s.pc := rfl

@[simp] theorem State.fetch8_state : s.fetch8.2 = (s.afterRead s.pc).jump (s.pc + 1#16) := rfl

/-! ## The stack (R290 to R293) -/

/-- Everything a push does (R291). -/
theorem State.push16_eq (w : Word) : s.push16 w =
    { s with
      sp := s.sp - 2#16
      mem := (s.mem.write (s.sp - 1#16).toNat (hiByte w)).write (s.sp - 2#16).toNat (loByte w)
      bus := s.bus ++ [.write (s.sp - 1#16) (hiByte w), .write (s.sp - 2#16) (loByte w)] } := by
  have h : s.sp - 1#16 - 1#16 = s.sp - 2#16 := by bv_omega
  simp [State.push16, State.push8, State.memWrite, h]

@[simp] theorem State.push16_sp (w : Word) : (s.push16 w).sp = s.sp - 2#16 := by rw [State.push16_eq]
@[simp] theorem State.push16_reg (w : Word) (r : Reg8) : (s.push16 w).reg r = s.reg r := by cases r <;> rfl
@[simp] theorem State.push16_f (w : Word) : (s.push16 w).f = s.f := rfl
@[simp] theorem State.push16_pc (w : Word) : (s.push16 w).pc = s.pc := rfl
@[simp] theorem State.push16_mode (w : Word) : (s.push16 w).mode = s.mode := rfl
@[simp] theorem State.push16_ime (w : Word) : (s.push16 w).ime = s.ime := rfl
@[simp] theorem State.push16_run (w : Word) : (s.push16 w).run = s.run := rfl
@[simp] theorem State.push16_params (w : Word) : (s.push16 w).params = s.params := rfl
@[simp] theorem State.push16_busReads (w : Word) : (s.push16 w).busReads = s.busReads := rfl

@[simp] theorem State.push16_bus (w : Word) :
    (s.push16 w).bus = s.bus ++ [.write (s.sp - 1#16) (hiByte w), .write (s.sp - 2#16) (loByte w)] := by
  rw [State.push16_eq]

theorem State.push16_wf (w : Word) (h : s.mem.wf) : (s.push16 w).mem.wf := by
  rw [State.push16_eq]
  exact Memory.write_wf _ _ _ (Memory.write_wf _ _ _ h (BitVec.isLt _)) (BitVec.isLt _)

/-- The bytes outside the stack slot of a push. -/
theorem State.push16_byteAt_other (w x : Word) (h1 : x ≠ s.sp - 1#16) (h2 : x ≠ s.sp - 2#16) :
    (s.push16 w).byteAt x = s.byteAt x := by
  rw [State.push16_eq]
  refine (Memory.read_write_other _ _ _ _ fun he => h2 (BitVec.eq_of_toNat_eq he)).trans ?_
  exact Memory.read_write_other _ _ _ _ fun he => h1 (BitVec.eq_of_toNat_eq he)

/-- The stack slot after a push, on memory in canonical form. -/
theorem State.push16_byteAt_slot (w : Word) (h : s.mem.wf) :
    (s.push16 w).byteAt (s.sp - 1#16) = hiByte w ∧ (s.push16 w).byteAt (s.sp - 2#16) = loByte w := by
  have hwf := Memory.write_wf s.mem (s.sp - 1#16).toNat (hiByte w) h (BitVec.isLt _)
  have hne : (s.sp - 1#16).toNat ≠ (s.sp - 2#16).toNat := by bv_omega
  rw [State.push16_eq]
  refine ⟨?_, Memory.read_write_same _ _ _ hwf⟩
  exact (Memory.read_write_other _ _ _ _ hne).trans (Memory.read_write_same _ _ _ h)

/-- The word a pop returns (R293): the low byte at `sp`, the high byte at `sp + 1`. -/
@[simp] theorem State.pop16_value : s.pop16.1 = wordOf (s.upcoming 1 (s.sp + 1#16)) (s.upcoming 0 s.sp) := by
  have h : ∀ t : State, ∀ w, ({ t with sp := w } : State).upcoming 0 (w) = t.upcoming 0 w := fun _ _ => rfl
  show wordOf (({ s.afterRead s.sp with sp := s.sp + 1#16 } : State).upcoming 0 (s.sp + 1#16)) _ = _
  rw [h, State.afterRead_upcoming]
  rfl

/-- The state a pop leaves (R293): two reads, `sp` two further. -/
@[simp] theorem State.pop16_state :
    s.pop16.2 = ((s.afterRead s.sp).afterRead (s.sp + 1#16)).setPair .sp (s.sp + 2#16) := by
  have h : s.sp + 1#16 + 1#16 = s.sp + 2#16 := by bv_omega
  simp only [State.pop16, State.pop8, State.memRead]
  rw [h]
  rfl

/-! ## Operand forms (R93, R130) -/

/-- The byte an operand of a 3-bit register code gives. -/
theorem State.readLoc_value (x : Loc8) :
    (s.readLoc x).1 = match x with | .reg r => s.reg r | .atHL => s.upcoming 0 s.hl := by cases x <;> rfl

/-- Reading an operand changes nothing but, for `(HL)`, the record of one read. -/
theorem State.readLoc_state (x : Loc8) :
    (s.readLoc x).2 = match x with | .reg _ => s | .atHL => s.afterRead s.hl := by cases x <;> rfl

theorem State.readSrc_value (x : Src8) :
    (s.readSrc x).1 = match x with | .loc y => (s.readLoc y).1 | .imm n => n := by cases x <;> rfl

theorem State.readSrc_state (x : Src8) :
    (s.readSrc x).2 = match x with | .loc y => (s.readLoc y).2 | .imm _ => s := by cases x <;> rfl

@[simp] theorem State.readLoc_atHL : s.readLoc .atHL = s.memRead s.hl := rfl
@[simp] theorem State.readLoc_reg (r : Reg8) : s.readLoc (.reg r) = (s.reg r, s) := rfl
@[simp] theorem State.writeLoc_atHL (v : Byte) : s.writeLoc .atHL v = s.memWrite s.hl v := rfl
@[simp] theorem State.writeLoc_reg (r : Reg8) (v : Byte) : s.writeLoc (.reg r) v = s.setReg r v := rfl
@[simp] theorem State.readSrc_loc (x : Loc8) : s.readSrc (.loc x) = s.readLoc x := rfl
@[simp] theorem State.readSrc_imm (n : Byte) : s.readSrc (.imm n) = (n, s) := rfl

/-- The high-page address is the offset under 0xFF (R240: "`0xFF00 | n`"). -/
theorem highPage_eq (n : Byte) : highPage n = wordOf 0xFF#8 n := by
  unfold highPage wordOf
  apply BitVec.eq_of_toNat_eq
  rw [BitVec.toNat_append, BitVec.toNat_add]
  have := n.isLt
  rw [← Nat.shiftLeft_add_eq_or_of_lt this]
  simp
  omega

/-! ## The decode error and the excluded instructions (R340, R341, R105) -/

theorem raiseUnimplemented_skip (op : Byte) (h : s.params.unimplPolicy = .skip) : raiseUnimplemented op s = .next s := by
  simp [raiseUnimplemented, h]

/-- A decode error answers a next state only under `Skip`, and then the state it was raised in. -/
theorem raiseUnimplemented_next {op : Byte} {s t : State} (h : raiseUnimplemented op s = .next t) :
    s.params.unimplPolicy = .skip ∧ t = s := by
  unfold raiseUnimplemented at h
  split at h <;> simp_all

theorem admitGK_true (m : String) (t : State) (h : s.params.admitGK = true) : admitGK m s t = .next t := by
  simp [admitGK, h]

theorem admitGK_false (m : String) (t : State) (h : s.params.admitGK = false) :
    admitGK m s t = .refused (.generalKnowledge m) := by
  simp [admitGK, h]

theorem admitGK_next {m : String} {s t u : State} (h : admitGK m s t = .next u) : s.params.admitGK = true ∧ u = t := by
  unfold admitGK at h
  split at h <;> simp_all

end Sys2Proof.Machine
end

