-- ==== Sys2Proof/Laws/Fetch.lean ====
section
/-! SUPPORT. What a step and its fetch stage do, field by field, so that no proof unfolds `fetchInstr`. -/

namespace Sys2Proof

/-- No opcode byte has more than two operand bytes (R99). -/
theorem operandCount_le_two (m : DecodeMode) (op : Byte) : operandCount m op ≤ 2 := by
  unfold operandCount
  repeat' split
  all_goals decide

/-- An extended opcode byte has no operand byte (R103). -/
@[simp] theorem operandCount_extended (op : Byte) : operandCount .extended op = 0 := rfl

namespace Machine

theorem step_running (s : State) (h : s.run = .running) :
    step s = exec s.beginStep.fetchInstr.1 s.beginStep.fetchInstr.2 := by
  unfold step; rw [h]

theorem step_idle (s : State) (h : s.run ≠ .running) : step s = .next s.beginStep := by
  unfold step; split
  · contradiction
  · rfl

variable (s : State)

/-- The fetch stage by the number of operand bytes: which instruction, and the state as one, two or three byte fetches. -/
theorem State.fetchInstr_cases :
    let op := s.upcoming 0 s.pc
    let lo := s.upcoming 1 (s.pc + 1#16)
    let hi := s.upcoming 2 (s.pc + 2#16)
    (operandCount s.mode op = 0 ∧
      s.fetchInstr = (decodeOp s.mode op 0#8 0#8, s.fetch8.2.setMode .primary)) ∨
    (operandCount s.mode op = 1 ∧
      s.fetchInstr = (decodeOp s.mode op lo 0#8, s.fetch8.2.fetch8.2.setMode .primary)) ∨
    (operandCount s.mode op = 2 ∧
      s.fetchInstr = (decodeOp s.mode op lo hi, s.fetch8.2.fetch8.2.fetch8.2.setMode .primary)) := by
  have e1 : s.upcoming 1 (s.pc + 1#16) = s.fetch8.2.fetch8.1 := by simp
  have e2 : s.upcoming 2 (s.pc + 2#16) = s.fetch8.2.fetch8.2.fetch8.1 := by simp [BitVec.add_assoc]
  have hle := operandCount_le_two s.mode s.fetch8.1
  rw [e1, e2, ← State.fetch8_value]
  unfold State.fetchInstr
  dsimp only
  generalize operandCount s.mode s.fetch8.1 = n at hle
  match n, hle with
  | 0, _ => exact .inl ⟨rfl, rfl⟩
  | 1, _ => exact .inr (.inl ⟨rfl, rfl⟩)
  | 2, _ => exact .inr (.inr ⟨rfl, rfl⟩)

/-- After the fetch stage `pc` is past the opcode byte and its operand bytes (R107). -/
theorem State.fetchInstr_pc :
    s.fetchInstr.2.pc = s.pc + BitVec.ofNat 16 (1 + operandCount s.mode (s.upcoming 0 s.pc)) := by
  obtain ⟨h, e⟩ | ⟨h, e⟩ | ⟨h, e⟩ := s.fetchInstr_cases <;> rw [e, h] <;> simp [BitVec.add_assoc]

theorem State.fetchInstr_mode : s.fetchInstr.2.mode = .primary := by
  obtain ⟨-, e⟩ | ⟨-, e⟩ | ⟨-, e⟩ := s.fetchInstr_cases <;> rw [e] <;> rfl

/-- What the fetch stage leaves alone: every register but `pc`, the gate, the run state, memory and the parameters. -/
theorem State.fetchInstr_frame :
    (∀ r, s.fetchInstr.2.reg r = s.reg r) ∧ s.fetchInstr.2.f = s.f ∧ s.fetchInstr.2.sp = s.sp ∧
    s.fetchInstr.2.ime = s.ime ∧ s.fetchInstr.2.run = s.run ∧ s.fetchInstr.2.mem = s.mem ∧
    s.fetchInstr.2.params = s.params := by
  obtain ⟨-, e⟩ | ⟨-, e⟩ | ⟨-, e⟩ := s.fetchInstr_cases <;> rw [e] <;>
    simp

end Machine

end Sys2Proof
end

