-- ==== Sys2Proof/Laws/PerInstr.lean ====
section
/-! SUPPORT. Per-instruction lemmas: the family `Length`. -/

namespace Sys2Proof.Laws.Length

/-- The length table (R101, R103) gives a well-formed instruction's opcode as many operand bytes as the encoder writes. -/
def Statement (i : Instr) : Prop := i.wellFormed = true → operandCount i.table i.opcode = i.operands.length

/-- The eleven unmapped bytes have no operand byte (R104). -/
theorem unmapped_count : ∀ op ∈ unmappedOpcodes, operandCount .primary op = 0 := by decide

theorem nop : Statement .nop := fun _ => rfl
theorem ld_BC_nn (nn : Word) : Statement (.ld_BC_nn nn) := fun _ => rfl
theorem ld_atBC_A : Statement .ld_atBC_A := fun _ => rfl
theorem inc_BC : Statement .inc_BC := fun _ => rfl
theorem inc_B : Statement .inc_B := fun _ => rfl
theorem dec_B : Statement .dec_B := fun _ => rfl
theorem ld_B_n (n : Byte) : Statement (.ld_B_n n) := fun _ => rfl
theorem rlca : Statement .rlca := fun _ => rfl
theorem ld_atNN_SP (nn : Word) : Statement (.ld_atNN_SP nn) := fun _ => rfl
theorem add_HL_BC : Statement .add_HL_BC := fun _ => rfl
theorem ld_A_atBC : Statement .ld_A_atBC := fun _ => rfl
theorem dec_BC : Statement .dec_BC := fun _ => rfl
theorem inc_C : Statement .inc_C := fun _ => rfl
theorem dec_C : Statement .dec_C := fun _ => rfl
theorem ld_C_n (n : Byte) : Statement (.ld_C_n n) := fun _ => rfl
theorem rrca : Statement .rrca := fun _ => rfl
theorem stop (n : Byte) : Statement (.stop n) := fun _ => rfl
theorem ld_DE_nn (nn : Word) : Statement (.ld_DE_nn nn) := fun _ => rfl
theorem ld_atDE_A : Statement .ld_atDE_A := fun _ => rfl
theorem inc_DE : Statement .inc_DE := fun _ => rfl
theorem inc_D : Statement .inc_D := fun _ => rfl
theorem dec_D : Statement .dec_D := fun _ => rfl
theorem ld_D_n (n : Byte) : Statement (.ld_D_n n) := fun _ => rfl
theorem rla : Statement .rla := fun _ => rfl
theorem jr_e (e : Byte) : Statement (.jr_e e) := fun _ => rfl
theorem add_HL_DE : Statement .add_HL_DE := fun _ => rfl
theorem ld_A_atDE : Statement .ld_A_atDE := fun _ => rfl
theorem dec_DE : Statement .dec_DE := fun _ => rfl
theorem inc_E : Statement .inc_E := fun _ => rfl
theorem dec_E : Statement .dec_E := fun _ => rfl
theorem ld_E_n (n : Byte) : Statement (.ld_E_n n) := fun _ => rfl
theorem rra : Statement .rra := fun _ => rfl
theorem jr_NZ_e (e : Byte) : Statement (.jr_NZ_e e) := fun _ => rfl
theorem ld_HL_nn (nn : Word) : Statement (.ld_HL_nn nn) := fun _ => rfl
theorem ld_atHLinc_A : Statement .ld_atHLinc_A := fun _ => rfl
theorem inc_HL : Statement .inc_HL := fun _ => rfl
theorem inc_H : Statement .inc_H := fun _ => rfl
theorem dec_H : Statement .dec_H := fun _ => rfl
theorem ld_H_n (n : Byte) : Statement (.ld_H_n n) := fun _ => rfl
theorem daa : Statement .daa := fun _ => rfl
theorem jr_Z_e (e : Byte) : Statement (.jr_Z_e e) := fun _ => rfl
theorem add_HL_HL : Statement .add_HL_HL := fun _ => rfl
theorem ld_A_atHLinc : Statement .ld_A_atHLinc := fun _ => rfl
theorem dec_HL : Statement .dec_HL := fun _ => rfl
theorem inc_L : Statement .inc_L := fun _ => rfl
theorem dec_L : Statement .dec_L := fun _ => rfl
theorem ld_L_n (n : Byte) : Statement (.ld_L_n n) := fun _ => rfl
theorem cpl : Statement .cpl := fun _ => rfl
theorem jr_NC_e (e : Byte) : Statement (.jr_NC_e e) := fun _ => rfl
theorem ld_SP_nn (nn : Word) : Statement (.ld_SP_nn nn) := fun _ => rfl
theorem ld_atHLdec_A : Statement .ld_atHLdec_A := fun _ => rfl
theorem inc_SP : Statement .inc_SP := fun _ => rfl
theorem inc_atHL : Statement .inc_atHL := fun _ => rfl
theorem dec_atHL : Statement .dec_atHL := fun _ => rfl
theorem ld_atHL_n (n : Byte) : Statement (.ld_atHL_n n) := fun _ => rfl
theorem scf : Statement .scf := fun _ => rfl
theorem jr_C_e (e : Byte) : Statement (.jr_C_e e) := fun _ => rfl
theorem add_HL_SP : Statement .add_HL_SP := fun _ => rfl
theorem ld_A_atHLdec : Statement .ld_A_atHLdec := fun _ => rfl
theorem dec_SP : Statement .dec_SP := fun _ => rfl
theorem inc_A : Statement .inc_A := fun _ => rfl
theorem dec_A : Statement .dec_A := fun _ => rfl
theorem ld_A_n (n : Byte) : Statement (.ld_A_n n) := fun _ => rfl
theorem ccf : Statement .ccf := fun _ => rfl
theorem ld_B_B : Statement .ld_B_B := fun _ => rfl
theorem ld_B_C : Statement .ld_B_C := fun _ => rfl
theorem ld_B_D : Statement .ld_B_D := fun _ => rfl
theorem ld_B_E : Statement .ld_B_E := fun _ => rfl
theorem ld_B_H : Statement .ld_B_H := fun _ => rfl
theorem ld_B_L : Statement .ld_B_L := fun _ => rfl
theorem ld_B_atHL : Statement .ld_B_atHL := fun _ => rfl
theorem ld_B_A : Statement .ld_B_A := fun _ => rfl
theorem ld_C_B : Statement .ld_C_B := fun _ => rfl
theorem ld_C_C : Statement .ld_C_C := fun _ => rfl
theorem ld_C_D : Statement .ld_C_D := fun _ => rfl
theorem ld_C_E : Statement .ld_C_E := fun _ => rfl
theorem ld_C_H : Statement .ld_C_H := fun _ => rfl
theorem ld_C_L : Statement .ld_C_L := fun _ => rfl
theorem ld_C_atHL : Statement .ld_C_atHL := fun _ => rfl
theorem ld_C_A : Statement .ld_C_A := fun _ => rfl
theorem ld_D_B : Statement .ld_D_B := fun _ => rfl
theorem ld_D_C : Statement .ld_D_C := fun _ => rfl
theorem ld_D_D : Statement .ld_D_D := fun _ => rfl
theorem ld_D_E : Statement .ld_D_E := fun _ => rfl
theorem ld_D_H : Statement .ld_D_H := fun _ => rfl
theorem ld_D_L : Statement .ld_D_L := fun _ => rfl
theorem ld_D_atHL : Statement .ld_D_atHL := fun _ => rfl
theorem ld_D_A : Statement .ld_D_A := fun _ => rfl
theorem ld_E_B : Statement .ld_E_B := fun _ => rfl
theorem ld_E_C : Statement .ld_E_C := fun _ => rfl
theorem ld_E_D : Statement .ld_E_D := fun _ => rfl
theorem ld_E_E : Statement .ld_E_E := fun _ => rfl
theorem ld_E_H : Statement .ld_E_H := fun _ => rfl
theorem ld_E_L : Statement .ld_E_L := fun _ => rfl
theorem ld_E_atHL : Statement .ld_E_atHL := fun _ => rfl
theorem ld_E_A : Statement .ld_E_A := fun _ => rfl
theorem ld_H_B : Statement .ld_H_B := fun _ => rfl
theorem ld_H_C : Statement .ld_H_C := fun _ => rfl
theorem ld_H_D : Statement .ld_H_D := fun _ => rfl
theorem ld_H_E : Statement .ld_H_E := fun _ => rfl
theorem ld_H_H : Statement .ld_H_H := fun _ => rfl
theorem ld_H_L : Statement .ld_H_L := fun _ => rfl
theorem ld_H_atHL : Statement .ld_H_atHL := fun _ => rfl
theorem ld_H_A : Statement .ld_H_A := fun _ => rfl
theorem ld_L_B : Statement .ld_L_B := fun _ => rfl
theorem ld_L_C : Statement .ld_L_C := fun _ => rfl
theorem ld_L_D : Statement .ld_L_D := fun _ => rfl
theorem ld_L_E : Statement .ld_L_E := fun _ => rfl
theorem ld_L_H : Statement .ld_L_H := fun _ => rfl
theorem ld_L_L : Statement .ld_L_L := fun _ => rfl
theorem ld_L_atHL : Statement .ld_L_atHL := fun _ => rfl
theorem ld_L_A : Statement .ld_L_A := fun _ => rfl
theorem ld_atHL_B : Statement .ld_atHL_B := fun _ => rfl
theorem ld_atHL_C : Statement .ld_atHL_C := fun _ => rfl
theorem ld_atHL_D : Statement .ld_atHL_D := fun _ => rfl
theorem ld_atHL_E : Statement .ld_atHL_E := fun _ => rfl
theorem ld_atHL_H : Statement .ld_atHL_H := fun _ => rfl
theorem ld_atHL_L : Statement .ld_atHL_L := fun _ => rfl
theorem halt : Statement .halt := fun _ => rfl
theorem ld_atHL_A : Statement .ld_atHL_A := fun _ => rfl
theorem ld_A_B : Statement .ld_A_B := fun _ => rfl
theorem ld_A_C : Statement .ld_A_C := fun _ => rfl
theorem ld_A_D : Statement .ld_A_D := fun _ => rfl
theorem ld_A_E : Statement .ld_A_E := fun _ => rfl
theorem ld_A_H : Statement .ld_A_H := fun _ => rfl
theorem ld_A_L : Statement .ld_A_L := fun _ => rfl
theorem ld_A_atHL : Statement .ld_A_atHL := fun _ => rfl
theorem ld_A_A : Statement .ld_A_A := fun _ => rfl
theorem add_A_B : Statement .add_A_B := fun _ => rfl
theorem add_A_C : Statement .add_A_C := fun _ => rfl
theorem add_A_D : Statement .add_A_D := fun _ => rfl
theorem add_A_E : Statement .add_A_E := fun _ => rfl
theorem add_A_H : Statement .add_A_H := fun _ => rfl
theorem add_A_L : Statement .add_A_L := fun _ => rfl
theorem add_A_atHL : Statement .add_A_atHL := fun _ => rfl
theorem add_A_A : Statement .add_A_A := fun _ => rfl
theorem adc_A_B : Statement .adc_A_B := fun _ => rfl
theorem adc_A_C : Statement .adc_A_C := fun _ => rfl
theorem adc_A_D : Statement .adc_A_D := fun _ => rfl
theorem adc_A_E : Statement .adc_A_E := fun _ => rfl
theorem adc_A_H : Statement .adc_A_H := fun _ => rfl
theorem adc_A_L : Statement .adc_A_L := fun _ => rfl
theorem adc_A_atHL : Statement .adc_A_atHL := fun _ => rfl
theorem adc_A_A : Statement .adc_A_A := fun _ => rfl
theorem sub_B : Statement .sub_B := fun _ => rfl
theorem sub_C : Statement .sub_C := fun _ => rfl
theorem sub_D : Statement .sub_D := fun _ => rfl
theorem sub_E : Statement .sub_E := fun _ => rfl
theorem sub_H : Statement .sub_H := fun _ => rfl
theorem sub_L : Statement .sub_L := fun _ => rfl
theorem sub_atHL : Statement .sub_atHL := fun _ => rfl
theorem sub_A : Statement .sub_A := fun _ => rfl
theorem sbc_A_B : Statement .sbc_A_B := fun _ => rfl
theorem sbc_A_C : Statement .sbc_A_C := fun _ => rfl
theorem sbc_A_D : Statement .sbc_A_D := fun _ => rfl
theorem sbc_A_E : Statement .sbc_A_E := fun _ => rfl
theorem sbc_A_H : Statement .sbc_A_H := fun _ => rfl
theorem sbc_A_L : Statement .sbc_A_L := fun _ => rfl
theorem sbc_A_atHL : Statement .sbc_A_atHL := fun _ => rfl
theorem sbc_A_A : Statement .sbc_A_A := fun _ => rfl
theorem and_B : Statement .and_B := fun _ => rfl
theorem and_C : Statement .and_C := fun _ => rfl
theorem and_D : Statement .and_D := fun _ => rfl
theorem and_E : Statement .and_E := fun _ => rfl
theorem and_H : Statement .and_H := fun _ => rfl
theorem and_L : Statement .and_L := fun _ => rfl
theorem and_atHL : Statement .and_atHL := fun _ => rfl
theorem and_A : Statement .and_A := fun _ => rfl
theorem xor_B : Statement .xor_B := fun _ => rfl
theorem xor_C : Statement .xor_C := fun _ => rfl
theorem xor_D : Statement .xor_D := fun _ => rfl
theorem xor_E : Statement .xor_E := fun _ => rfl
theorem xor_H : Statement .xor_H := fun _ => rfl
theorem xor_L : Statement .xor_L := fun _ => rfl
theorem xor_atHL : Statement .xor_atHL := fun _ => rfl
theorem xor_A : Statement .xor_A := fun _ => rfl
theorem or_B : Statement .or_B := fun _ => rfl
theorem or_C : Statement .or_C := fun _ => rfl
theorem or_D : Statement .or_D := fun _ => rfl
theorem or_E : Statement .or_E := fun _ => rfl
theorem or_H : Statement .or_H := fun _ => rfl
theorem or_L : Statement .or_L := fun _ => rfl
theorem or_atHL : Statement .or_atHL := fun _ => rfl
theorem or_A : Statement .or_A := fun _ => rfl
theorem cp_B : Statement .cp_B := fun _ => rfl
theorem cp_C : Statement .cp_C := fun _ => rfl
theorem cp_D : Statement .cp_D := fun _ => rfl
theorem cp_E : Statement .cp_E := fun _ => rfl
theorem cp_H : Statement .cp_H := fun _ => rfl
theorem cp_L : Statement .cp_L := fun _ => rfl
theorem cp_atHL : Statement .cp_atHL := fun _ => rfl
theorem cp_A : Statement .cp_A := fun _ => rfl
theorem ret_NZ : Statement .ret_NZ := fun _ => rfl
theorem pop_BC : Statement .pop_BC := fun _ => rfl
theorem jp_NZ_nn (nn : Word) : Statement (.jp_NZ_nn nn) := fun _ => rfl
theorem jp_nn (nn : Word) : Statement (.jp_nn nn) := fun _ => rfl
theorem call_NZ_nn (nn : Word) : Statement (.call_NZ_nn nn) := fun _ => rfl
theorem push_BC : Statement .push_BC := fun _ => rfl
theorem add_A_n (n : Byte) : Statement (.add_A_n n) := fun _ => rfl
theorem rst_00 : Statement .rst_00 := fun _ => rfl
theorem ret_Z : Statement .ret_Z := fun _ => rfl
theorem ret : Statement .ret := fun _ => rfl
theorem jp_Z_nn (nn : Word) : Statement (.jp_Z_nn nn) := fun _ => rfl
theorem prefix_CB : Statement .prefix_CB := fun _ => rfl
theorem call_Z_nn (nn : Word) : Statement (.call_Z_nn nn) := fun _ => rfl
theorem call_nn (nn : Word) : Statement (.call_nn nn) := fun _ => rfl
theorem adc_A_n (n : Byte) : Statement (.adc_A_n n) := fun _ => rfl
theorem rst_08 : Statement .rst_08 := fun _ => rfl
theorem ret_NC : Statement .ret_NC := fun _ => rfl
theorem pop_DE : Statement .pop_DE := fun _ => rfl
theorem jp_NC_nn (nn : Word) : Statement (.jp_NC_nn nn) := fun _ => rfl
theorem unmapped (op : Byte) : Statement (.unmapped op) := fun h => unmapped_count op (by simpa [Instr.wellFormed] using h)
theorem call_NC_nn (nn : Word) : Statement (.call_NC_nn nn) := fun _ => rfl
theorem push_DE : Statement .push_DE := fun _ => rfl
theorem sub_n (n : Byte) : Statement (.sub_n n) := fun _ => rfl
theorem rst_10 : Statement .rst_10 := fun _ => rfl
theorem ret_C : Statement .ret_C := fun _ => rfl
theorem reti : Statement .reti := fun _ => rfl
theorem jp_C_nn (nn : Word) : Statement (.jp_C_nn nn) := fun _ => rfl
theorem call_C_nn (nn : Word) : Statement (.call_C_nn nn) := fun _ => rfl
theorem sbc_A_n (n : Byte) : Statement (.sbc_A_n n) := fun _ => rfl
theorem rst_18 : Statement .rst_18 := fun _ => rfl
theorem ldh_atN_A (n : Byte) : Statement (.ldh_atN_A n) := fun _ => rfl
theorem pop_HL : Statement .pop_HL := fun _ => rfl
theorem ld_atC_A : Statement .ld_atC_A := fun _ => rfl
theorem push_HL : Statement .push_HL := fun _ => rfl
theorem and_n (n : Byte) : Statement (.and_n n) := fun _ => rfl
theorem rst_20 : Statement .rst_20 := fun _ => rfl
theorem add_SP_e (e : Byte) : Statement (.add_SP_e e) := fun _ => rfl
theorem jp_atHL : Statement .jp_atHL := fun _ => rfl
theorem ld_atNN_A (nn : Word) : Statement (.ld_atNN_A nn) := fun _ => rfl
theorem xor_n (n : Byte) : Statement (.xor_n n) := fun _ => rfl
theorem rst_28 : Statement .rst_28 := fun _ => rfl
theorem ldh_A_atN (n : Byte) : Statement (.ldh_A_atN n) := fun _ => rfl
theorem pop_AF : Statement .pop_AF := fun _ => rfl
theorem ld_A_atC : Statement .ld_A_atC := fun _ => rfl
theorem di : Statement .di := fun _ => rfl
theorem push_AF : Statement .push_AF := fun _ => rfl
theorem or_n (n : Byte) : Statement (.or_n n) := fun _ => rfl
theorem rst_30 : Statement .rst_30 := fun _ => rfl
theorem ld_HL_SPe (e : Byte) : Statement (.ld_HL_SPe e) := fun _ => rfl
theorem ld_SP_HL : Statement .ld_SP_HL := fun _ => rfl
theorem ld_A_atNN (nn : Word) : Statement (.ld_A_atNN nn) := fun _ => rfl
theorem ei : Statement .ei := fun _ => rfl
theorem cp_n (n : Byte) : Statement (.cp_n n) := fun _ => rfl
theorem rst_38 : Statement .rst_38 := fun _ => rfl
theorem rlc_B : Statement .rlc_B := fun _ => rfl
theorem rlc_C : Statement .rlc_C := fun _ => rfl
theorem rlc_D : Statement .rlc_D := fun _ => rfl
theorem rlc_E : Statement .rlc_E := fun _ => rfl
theorem rlc_H : Statement .rlc_H := fun _ => rfl
theorem rlc_L : Statement .rlc_L := fun _ => rfl
theorem rlc_atHL : Statement .rlc_atHL := fun _ => rfl
theorem rlc_A : Statement .rlc_A := fun _ => rfl
theorem rrc_B : Statement .rrc_B := fun _ => rfl
theorem rrc_C : Statement .rrc_C := fun _ => rfl
theorem rrc_D : Statement .rrc_D := fun _ => rfl
theorem rrc_E : Statement .rrc_E := fun _ => rfl
theorem rrc_H : Statement .rrc_H := fun _ => rfl
theorem rrc_L : Statement .rrc_L := fun _ => rfl
theorem rrc_atHL : Statement .rrc_atHL := fun _ => rfl
theorem rrc_A : Statement .rrc_A := fun _ => rfl
theorem rl_B : Statement .rl_B := fun _ => rfl
theorem rl_C : Statement .rl_C := fun _ => rfl
theorem rl_D : Statement .rl_D := fun _ => rfl
theorem rl_E : Statement .rl_E := fun _ => rfl
theorem rl_H : Statement .rl_H := fun _ => rfl
theorem rl_L : Statement .rl_L := fun _ => rfl
theorem rl_atHL : Statement .rl_atHL := fun _ => rfl
theorem rl_A : Statement .rl_A := fun _ => rfl
theorem rr_B : Statement .rr_B := fun _ => rfl
theorem rr_C : Statement .rr_C := fun _ => rfl
theorem rr_D : Statement .rr_D := fun _ => rfl
theorem rr_E : Statement .rr_E := fun _ => rfl
theorem rr_H : Statement .rr_H := fun _ => rfl
theorem rr_L : Statement .rr_L := fun _ => rfl
theorem rr_atHL : Statement .rr_atHL := fun _ => rfl
theorem rr_A : Statement .rr_A := fun _ => rfl
theorem sla_B : Statement .sla_B := fun _ => rfl
theorem sla_C : Statement .sla_C := fun _ => rfl
theorem sla_D : Statement .sla_D := fun _ => rfl
theorem sla_E : Statement .sla_E := fun _ => rfl
theorem sla_H : Statement .sla_H := fun _ => rfl
theorem sla_L : Statement .sla_L := fun _ => rfl
theorem sla_atHL : Statement .sla_atHL := fun _ => rfl
theorem sla_A : Statement .sla_A := fun _ => rfl
theorem sra_B : Statement .sra_B := fun _ => rfl
theorem sra_C : Statement .sra_C := fun _ => rfl
theorem sra_D : Statement .sra_D := fun _ => rfl
theorem sra_E : Statement .sra_E := fun _ => rfl
theorem sra_H : Statement .sra_H := fun _ => rfl
theorem sra_L : Statement .sra_L := fun _ => rfl
theorem sra_atHL : Statement .sra_atHL := fun _ => rfl
theorem sra_A : Statement .sra_A := fun _ => rfl
theorem swap_B : Statement .swap_B := fun _ => rfl
theorem swap_C : Statement .swap_C := fun _ => rfl
theorem swap_D : Statement .swap_D := fun _ => rfl
theorem swap_E : Statement .swap_E := fun _ => rfl
theorem swap_H : Statement .swap_H := fun _ => rfl
theorem swap_L : Statement .swap_L := fun _ => rfl
theorem swap_atHL : Statement .swap_atHL := fun _ => rfl
theorem swap_A : Statement .swap_A := fun _ => rfl
theorem srl_B : Statement .srl_B := fun _ => rfl
theorem srl_C : Statement .srl_C := fun _ => rfl
theorem srl_D : Statement .srl_D := fun _ => rfl
theorem srl_E : Statement .srl_E := fun _ => rfl
theorem srl_H : Statement .srl_H := fun _ => rfl
theorem srl_L : Statement .srl_L := fun _ => rfl
theorem srl_atHL : Statement .srl_atHL := fun _ => rfl
theorem srl_A : Statement .srl_A := fun _ => rfl
theorem bit_0_B : Statement .bit_0_B := fun _ => rfl
theorem bit_0_C : Statement .bit_0_C := fun _ => rfl
theorem bit_0_D : Statement .bit_0_D := fun _ => rfl
theorem bit_0_E : Statement .bit_0_E := fun _ => rfl
theorem bit_0_H : Statement .bit_0_H := fun _ => rfl
theorem bit_0_L : Statement .bit_0_L := fun _ => rfl
theorem bit_0_atHL : Statement .bit_0_atHL := fun _ => rfl
theorem bit_0_A : Statement .bit_0_A := fun _ => rfl
theorem bit_1_B : Statement .bit_1_B := fun _ => rfl
theorem bit_1_C : Statement .bit_1_C := fun _ => rfl
theorem bit_1_D : Statement .bit_1_D := fun _ => rfl
theorem bit_1_E : Statement .bit_1_E := fun _ => rfl
theorem bit_1_H : Statement .bit_1_H := fun _ => rfl
theorem bit_1_L : Statement .bit_1_L := fun _ => rfl
theorem bit_1_atHL : Statement .bit_1_atHL := fun _ => rfl
theorem bit_1_A : Statement .bit_1_A := fun _ => rfl
theorem bit_2_B : Statement .bit_2_B := fun _ => rfl
theorem bit_2_C : Statement .bit_2_C := fun _ => rfl
theorem bit_2_D : Statement .bit_2_D := fun _ => rfl
theorem bit_2_E : Statement .bit_2_E := fun _ => rfl
theorem bit_2_H : Statement .bit_2_H := fun _ => rfl
theorem bit_2_L : Statement .bit_2_L := fun _ => rfl
theorem bit_2_atHL : Statement .bit_2_atHL := fun _ => rfl
theorem bit_2_A : Statement .bit_2_A := fun _ => rfl
theorem bit_3_B : Statement .bit_3_B := fun _ => rfl
theorem bit_3_C : Statement .bit_3_C := fun _ => rfl
theorem bit_3_D : Statement .bit_3_D := fun _ => rfl
theorem bit_3_E : Statement .bit_3_E := fun _ => rfl
theorem bit_3_H : Statement .bit_3_H := fun _ => rfl
theorem bit_3_L : Statement .bit_3_L := fun _ => rfl
theorem bit_3_atHL : Statement .bit_3_atHL := fun _ => rfl
theorem bit_3_A : Statement .bit_3_A := fun _ => rfl
theorem bit_4_B : Statement .bit_4_B := fun _ => rfl
theorem bit_4_C : Statement .bit_4_C := fun _ => rfl
theorem bit_4_D : Statement .bit_4_D := fun _ => rfl
theorem bit_4_E : Statement .bit_4_E := fun _ => rfl
theorem bit_4_H : Statement .bit_4_H := fun _ => rfl
theorem bit_4_L : Statement .bit_4_L := fun _ => rfl
theorem bit_4_atHL : Statement .bit_4_atHL := fun _ => rfl
theorem bit_4_A : Statement .bit_4_A := fun _ => rfl
theorem bit_5_B : Statement .bit_5_B := fun _ => rfl
theorem bit_5_C : Statement .bit_5_C := fun _ => rfl
theorem bit_5_D : Statement .bit_5_D := fun _ => rfl
theorem bit_5_E : Statement .bit_5_E := fun _ => rfl
theorem bit_5_H : Statement .bit_5_H := fun _ => rfl
theorem bit_5_L : Statement .bit_5_L := fun _ => rfl
theorem bit_5_atHL : Statement .bit_5_atHL := fun _ => rfl
theorem bit_5_A : Statement .bit_5_A := fun _ => rfl
theorem bit_6_B : Statement .bit_6_B := fun _ => rfl
theorem bit_6_C : Statement .bit_6_C := fun _ => rfl
theorem bit_6_D : Statement .bit_6_D := fun _ => rfl
theorem bit_6_E : Statement .bit_6_E := fun _ => rfl
theorem bit_6_H : Statement .bit_6_H := fun _ => rfl
theorem bit_6_L : Statement .bit_6_L := fun _ => rfl
theorem bit_6_atHL : Statement .bit_6_atHL := fun _ => rfl
theorem bit_6_A : Statement .bit_6_A := fun _ => rfl
theorem bit_7_B : Statement .bit_7_B := fun _ => rfl
theorem bit_7_C : Statement .bit_7_C := fun _ => rfl
theorem bit_7_D : Statement .bit_7_D := fun _ => rfl
theorem bit_7_E : Statement .bit_7_E := fun _ => rfl
theorem bit_7_H : Statement .bit_7_H := fun _ => rfl
theorem bit_7_L : Statement .bit_7_L := fun _ => rfl
theorem bit_7_atHL : Statement .bit_7_atHL := fun _ => rfl
theorem bit_7_A : Statement .bit_7_A := fun _ => rfl
theorem res_0_B : Statement .res_0_B := fun _ => rfl
theorem res_0_C : Statement .res_0_C := fun _ => rfl
theorem res_0_D : Statement .res_0_D := fun _ => rfl
theorem res_0_E : Statement .res_0_E := fun _ => rfl
theorem res_0_H : Statement .res_0_H := fun _ => rfl
theorem res_0_L : Statement .res_0_L := fun _ => rfl
theorem res_0_atHL : Statement .res_0_atHL := fun _ => rfl
theorem res_0_A : Statement .res_0_A := fun _ => rfl
theorem res_1_B : Statement .res_1_B := fun _ => rfl
theorem res_1_C : Statement .res_1_C := fun _ => rfl
theorem res_1_D : Statement .res_1_D := fun _ => rfl
theorem res_1_E : Statement .res_1_E := fun _ => rfl
theorem res_1_H : Statement .res_1_H := fun _ => rfl
theorem res_1_L : Statement .res_1_L := fun _ => rfl
theorem res_1_atHL : Statement .res_1_atHL := fun _ => rfl
theorem res_1_A : Statement .res_1_A := fun _ => rfl
theorem res_2_B : Statement .res_2_B := fun _ => rfl
theorem res_2_C : Statement .res_2_C := fun _ => rfl
theorem res_2_D : Statement .res_2_D := fun _ => rfl
theorem res_2_E : Statement .res_2_E := fun _ => rfl
theorem res_2_H : Statement .res_2_H := fun _ => rfl
theorem res_2_L : Statement .res_2_L := fun _ => rfl
theorem res_2_atHL : Statement .res_2_atHL := fun _ => rfl
theorem res_2_A : Statement .res_2_A := fun _ => rfl
theorem res_3_B : Statement .res_3_B := fun _ => rfl
theorem res_3_C : Statement .res_3_C := fun _ => rfl
theorem res_3_D : Statement .res_3_D := fun _ => rfl
theorem res_3_E : Statement .res_3_E := fun _ => rfl
theorem res_3_H : Statement .res_3_H := fun _ => rfl
theorem res_3_L : Statement .res_3_L := fun _ => rfl
theorem res_3_atHL : Statement .res_3_atHL := fun _ => rfl
theorem res_3_A : Statement .res_3_A := fun _ => rfl
theorem res_4_B : Statement .res_4_B := fun _ => rfl
theorem res_4_C : Statement .res_4_C := fun _ => rfl
theorem res_4_D : Statement .res_4_D := fun _ => rfl
theorem res_4_E : Statement .res_4_E := fun _ => rfl
theorem res_4_H : Statement .res_4_H := fun _ => rfl
theorem res_4_L : Statement .res_4_L := fun _ => rfl
theorem res_4_atHL : Statement .res_4_atHL := fun _ => rfl
theorem res_4_A : Statement .res_4_A := fun _ => rfl
theorem res_5_B : Statement .res_5_B := fun _ => rfl
theorem res_5_C : Statement .res_5_C := fun _ => rfl
theorem res_5_D : Statement .res_5_D := fun _ => rfl
theorem res_5_E : Statement .res_5_E := fun _ => rfl
theorem res_5_H : Statement .res_5_H := fun _ => rfl
theorem res_5_L : Statement .res_5_L := fun _ => rfl
theorem res_5_atHL : Statement .res_5_atHL := fun _ => rfl
theorem res_5_A : Statement .res_5_A := fun _ => rfl
theorem res_6_B : Statement .res_6_B := fun _ => rfl
theorem res_6_C : Statement .res_6_C := fun _ => rfl
theorem res_6_D : Statement .res_6_D := fun _ => rfl
theorem res_6_E : Statement .res_6_E := fun _ => rfl
theorem res_6_H : Statement .res_6_H := fun _ => rfl
theorem res_6_L : Statement .res_6_L := fun _ => rfl
theorem res_6_atHL : Statement .res_6_atHL := fun _ => rfl
theorem res_6_A : Statement .res_6_A := fun _ => rfl
theorem res_7_B : Statement .res_7_B := fun _ => rfl
theorem res_7_C : Statement .res_7_C := fun _ => rfl
theorem res_7_D : Statement .res_7_D := fun _ => rfl
theorem res_7_E : Statement .res_7_E := fun _ => rfl
theorem res_7_H : Statement .res_7_H := fun _ => rfl
theorem res_7_L : Statement .res_7_L := fun _ => rfl
theorem res_7_atHL : Statement .res_7_atHL := fun _ => rfl
theorem res_7_A : Statement .res_7_A := fun _ => rfl
theorem set_0_B : Statement .set_0_B := fun _ => rfl
theorem set_0_C : Statement .set_0_C := fun _ => rfl
theorem set_0_D : Statement .set_0_D := fun _ => rfl
theorem set_0_E : Statement .set_0_E := fun _ => rfl
theorem set_0_H : Statement .set_0_H := fun _ => rfl
theorem set_0_L : Statement .set_0_L := fun _ => rfl
theorem set_0_atHL : Statement .set_0_atHL := fun _ => rfl
theorem set_0_A : Statement .set_0_A := fun _ => rfl
theorem set_1_B : Statement .set_1_B := fun _ => rfl
theorem set_1_C : Statement .set_1_C := fun _ => rfl
theorem set_1_D : Statement .set_1_D := fun _ => rfl
theorem set_1_E : Statement .set_1_E := fun _ => rfl
theorem set_1_H : Statement .set_1_H := fun _ => rfl
theorem set_1_L : Statement .set_1_L := fun _ => rfl
theorem set_1_atHL : Statement .set_1_atHL := fun _ => rfl
theorem set_1_A : Statement .set_1_A := fun _ => rfl
theorem set_2_B : Statement .set_2_B := fun _ => rfl
theorem set_2_C : Statement .set_2_C := fun _ => rfl
theorem set_2_D : Statement .set_2_D := fun _ => rfl
theorem set_2_E : Statement .set_2_E := fun _ => rfl
theorem set_2_H : Statement .set_2_H := fun _ => rfl
theorem set_2_L : Statement .set_2_L := fun _ => rfl
theorem set_2_atHL : Statement .set_2_atHL := fun _ => rfl
theorem set_2_A : Statement .set_2_A := fun _ => rfl
theorem set_3_B : Statement .set_3_B := fun _ => rfl
theorem set_3_C : Statement .set_3_C := fun _ => rfl
theorem set_3_D : Statement .set_3_D := fun _ => rfl
theorem set_3_E : Statement .set_3_E := fun _ => rfl
theorem set_3_H : Statement .set_3_H := fun _ => rfl
theorem set_3_L : Statement .set_3_L := fun _ => rfl
theorem set_3_atHL : Statement .set_3_atHL := fun _ => rfl
theorem set_3_A : Statement .set_3_A := fun _ => rfl
theorem set_4_B : Statement .set_4_B := fun _ => rfl
theorem set_4_C : Statement .set_4_C := fun _ => rfl
theorem set_4_D : Statement .set_4_D := fun _ => rfl
theorem set_4_E : Statement .set_4_E := fun _ => rfl
theorem set_4_H : Statement .set_4_H := fun _ => rfl
theorem set_4_L : Statement .set_4_L := fun _ => rfl
theorem set_4_atHL : Statement .set_4_atHL := fun _ => rfl
theorem set_4_A : Statement .set_4_A := fun _ => rfl
theorem set_5_B : Statement .set_5_B := fun _ => rfl
theorem set_5_C : Statement .set_5_C := fun _ => rfl
theorem set_5_D : Statement .set_5_D := fun _ => rfl
theorem set_5_E : Statement .set_5_E := fun _ => rfl
theorem set_5_H : Statement .set_5_H := fun _ => rfl
theorem set_5_L : Statement .set_5_L := fun _ => rfl
theorem set_5_atHL : Statement .set_5_atHL := fun _ => rfl
theorem set_5_A : Statement .set_5_A := fun _ => rfl
theorem set_6_B : Statement .set_6_B := fun _ => rfl
theorem set_6_C : Statement .set_6_C := fun _ => rfl
theorem set_6_D : Statement .set_6_D := fun _ => rfl
theorem set_6_E : Statement .set_6_E := fun _ => rfl
theorem set_6_H : Statement .set_6_H := fun _ => rfl
theorem set_6_L : Statement .set_6_L := fun _ => rfl
theorem set_6_atHL : Statement .set_6_atHL := fun _ => rfl
theorem set_6_A : Statement .set_6_A := fun _ => rfl
theorem set_7_B : Statement .set_7_B := fun _ => rfl
theorem set_7_C : Statement .set_7_C := fun _ => rfl
theorem set_7_D : Statement .set_7_D := fun _ => rfl
theorem set_7_E : Statement .set_7_E := fun _ => rfl
theorem set_7_H : Statement .set_7_H := fun _ => rfl
theorem set_7_L : Statement .set_7_L := fun _ => rfl
theorem set_7_atHL : Statement .set_7_atHL := fun _ => rfl
theorem set_7_A : Statement .set_7_A := fun _ => rfl

end Sys2Proof.Laws.Length
end

