-- ==== Sys2Proof/Tests/Slice0.lean ====
section
/-! SUPPORT. Tests. The words of the decode tests are the bit patterns of spec/opcode_table.json; the start and end values of
the step tests are vectors of spec/95_test_vectors.md, each named by its id there, which that file derives by hand from the
rules; a witness theorem shows a concrete state and operands that meet the hypotheses of the obligation it is named after. -/

namespace Sys2Proof.Tests

open Sys2Proof Sys2Proof.Machine Sys2Proof.Claim

/-! ## Well-formedness -/

/-- R104: `unmapped` stands for the eleven bytes with no table entry and for no other. -/
theorem test_wellFormed_refuses_unmapped_of_mapped_byte :
    (Instr.unmapped 0x00#8).wellFormed = false ∧ (Instr.unmapped 0xCB#8).wellFormed = false ∧
    (Instr.unmapped 0xD2#8).wellFormed = false ∧ (Instr.unmapped 0xFE#8).wellFormed = false := by decide

theorem test_wellFormed_accepts_the_unmapped_bytes :
    (unmappedBytes.map fun op => (Instr.unmapped op).wellFormed) = List.replicate 11 true := by decide

theorem test_wellFormed_accepts_every_operand :
    ∀ n : Byte, (Instr.ld_A_n n).wellFormed = true := fun _ => rfl

/-! ## Decoding: the words of the opcode table, bit by bit -/

/-- In mode `m` the bytes, and no byte after them, are read as `i`. -/
def reads (m : DecodeMode) (bytes : List Byte) (i : Instr) : Bool :=
  match decode m (bytes ++ [0xEE#8]) with
  | .ok (j, rest) => decide (j = i) && decide (rest = [0xEE#8])
  | .error _ => false

theorem test_decode_primary_00_to_0F : (
    reads .primary [0b00000000#8] .nop && reads .primary [0b00000001#8, 0x34#8, 0x12#8] (.ld_BC_nn 0x1234#16) &&
    reads .primary [0b00000010#8] .ld_atBC_A && reads .primary [0b00000011#8] .inc_BC &&
    reads .primary [0b00000100#8] .inc_B && reads .primary [0b00000101#8] .dec_B &&
    reads .primary [0b00000110#8, 0x9C#8] (.ld_B_n 0x9C#8) && reads .primary [0b00000111#8] .rlca &&
    reads .primary [0b00001000#8, 0x34#8, 0x12#8] (.ld_atNN_SP 0x1234#16) && reads .primary [0b00001001#8] .add_HL_BC &&
    reads .primary [0b00001010#8] .ld_A_atBC && reads .primary [0b00001011#8] .dec_BC &&
    reads .primary [0b00001100#8] .inc_C && reads .primary [0b00001101#8] .dec_C &&
    reads .primary [0b00001110#8, 0x9C#8] (.ld_C_n 0x9C#8) && reads .primary [0b00001111#8] .rrca) = true := by decide

theorem test_decode_primary_10_to_1F : (
    reads .primary [0b00010000#8, 0x9C#8] (.stop 0x9C#8) &&
    reads .primary [0b00010001#8, 0x34#8, 0x12#8] (.ld_DE_nn 0x1234#16) && reads .primary [0b00010010#8] .ld_atDE_A &&
    reads .primary [0b00010011#8] .inc_DE && reads .primary [0b00010100#8] .inc_D && reads .primary [0b00010101#8] .dec_D &&
    reads .primary [0b00010110#8, 0x9C#8] (.ld_D_n 0x9C#8) && reads .primary [0b00010111#8] .rla &&
    reads .primary [0b00011000#8, 0x9C#8] (.jr_e 0x9C#8) && reads .primary [0b00011001#8] .add_HL_DE &&
    reads .primary [0b00011010#8] .ld_A_atDE && reads .primary [0b00011011#8] .dec_DE &&
    reads .primary [0b00011100#8] .inc_E && reads .primary [0b00011101#8] .dec_E &&
    reads .primary [0b00011110#8, 0x9C#8] (.ld_E_n 0x9C#8) && reads .primary [0b00011111#8] .rra) = true := by decide

theorem test_decode_primary_20_to_2F : (
    reads .primary [0b00100000#8, 0x9C#8] (.jr_NZ_e 0x9C#8) &&
    reads .primary [0b00100001#8, 0x34#8, 0x12#8] (.ld_HL_nn 0x1234#16) && reads .primary [0b00100010#8] .ld_atHLinc_A &&
    reads .primary [0b00100011#8] .inc_HL && reads .primary [0b00100100#8] .inc_H && reads .primary [0b00100101#8] .dec_H &&
    reads .primary [0b00100110#8, 0x9C#8] (.ld_H_n 0x9C#8) && reads .primary [0b00100111#8] .daa &&
    reads .primary [0b00101000#8, 0x9C#8] (.jr_Z_e 0x9C#8) && reads .primary [0b00101001#8] .add_HL_HL &&
    reads .primary [0b00101010#8] .ld_A_atHLinc && reads .primary [0b00101011#8] .dec_HL &&
    reads .primary [0b00101100#8] .inc_L && reads .primary [0b00101101#8] .dec_L &&
    reads .primary [0b00101110#8, 0x9C#8] (.ld_L_n 0x9C#8) && reads .primary [0b00101111#8] .cpl) = true := by decide

theorem test_decode_primary_30_to_3F : (
    reads .primary [0b00110000#8, 0x9C#8] (.jr_NC_e 0x9C#8) &&
    reads .primary [0b00110001#8, 0x34#8, 0x12#8] (.ld_SP_nn 0x1234#16) && reads .primary [0b00110010#8] .ld_atHLdec_A &&
    reads .primary [0b00110011#8] .inc_SP && reads .primary [0b00110100#8] .inc_atHL &&
    reads .primary [0b00110101#8] .dec_atHL && reads .primary [0b00110110#8, 0x9C#8] (.ld_atHL_n 0x9C#8) &&
    reads .primary [0b00110111#8] .scf && reads .primary [0b00111000#8, 0x9C#8] (.jr_C_e 0x9C#8) &&
    reads .primary [0b00111001#8] .add_HL_SP && reads .primary [0b00111010#8] .ld_A_atHLdec &&
    reads .primary [0b00111011#8] .dec_SP && reads .primary [0b00111100#8] .inc_A && reads .primary [0b00111101#8] .dec_A &&
    reads .primary [0b00111110#8, 0x9C#8] (.ld_A_n 0x9C#8) && reads .primary [0b00111111#8] .ccf) = true := by decide

theorem test_decode_primary_40_to_4F : (
    reads .primary [0b01000000#8] .ld_B_B && reads .primary [0b01000001#8] .ld_B_C &&
    reads .primary [0b01000010#8] .ld_B_D && reads .primary [0b01000011#8] .ld_B_E &&
    reads .primary [0b01000100#8] .ld_B_H && reads .primary [0b01000101#8] .ld_B_L &&
    reads .primary [0b01000110#8] .ld_B_atHL && reads .primary [0b01000111#8] .ld_B_A &&
    reads .primary [0b01001000#8] .ld_C_B && reads .primary [0b01001001#8] .ld_C_C &&
    reads .primary [0b01001010#8] .ld_C_D && reads .primary [0b01001011#8] .ld_C_E &&
    reads .primary [0b01001100#8] .ld_C_H && reads .primary [0b01001101#8] .ld_C_L &&
    reads .primary [0b01001110#8] .ld_C_atHL && reads .primary [0b01001111#8] .ld_C_A) = true := by decide

theorem test_decode_primary_50_to_5F : (
    reads .primary [0b01010000#8] .ld_D_B && reads .primary [0b01010001#8] .ld_D_C &&
    reads .primary [0b01010010#8] .ld_D_D && reads .primary [0b01010011#8] .ld_D_E &&
    reads .primary [0b01010100#8] .ld_D_H && reads .primary [0b01010101#8] .ld_D_L &&
    reads .primary [0b01010110#8] .ld_D_atHL && reads .primary [0b01010111#8] .ld_D_A &&
    reads .primary [0b01011000#8] .ld_E_B && reads .primary [0b01011001#8] .ld_E_C &&
    reads .primary [0b01011010#8] .ld_E_D && reads .primary [0b01011011#8] .ld_E_E &&
    reads .primary [0b01011100#8] .ld_E_H && reads .primary [0b01011101#8] .ld_E_L &&
    reads .primary [0b01011110#8] .ld_E_atHL && reads .primary [0b01011111#8] .ld_E_A) = true := by decide

theorem test_decode_primary_60_to_6F : (
    reads .primary [0b01100000#8] .ld_H_B && reads .primary [0b01100001#8] .ld_H_C &&
    reads .primary [0b01100010#8] .ld_H_D && reads .primary [0b01100011#8] .ld_H_E &&
    reads .primary [0b01100100#8] .ld_H_H && reads .primary [0b01100101#8] .ld_H_L &&
    reads .primary [0b01100110#8] .ld_H_atHL && reads .primary [0b01100111#8] .ld_H_A &&
    reads .primary [0b01101000#8] .ld_L_B && reads .primary [0b01101001#8] .ld_L_C &&
    reads .primary [0b01101010#8] .ld_L_D && reads .primary [0b01101011#8] .ld_L_E &&
    reads .primary [0b01101100#8] .ld_L_H && reads .primary [0b01101101#8] .ld_L_L &&
    reads .primary [0b01101110#8] .ld_L_atHL && reads .primary [0b01101111#8] .ld_L_A) = true := by decide

theorem test_decode_primary_70_to_7F : (
    reads .primary [0b01110000#8] .ld_atHL_B && reads .primary [0b01110001#8] .ld_atHL_C &&
    reads .primary [0b01110010#8] .ld_atHL_D && reads .primary [0b01110011#8] .ld_atHL_E &&
    reads .primary [0b01110100#8] .ld_atHL_H && reads .primary [0b01110101#8] .ld_atHL_L &&
    reads .primary [0b01110110#8] .halt && reads .primary [0b01110111#8] .ld_atHL_A &&
    reads .primary [0b01111000#8] .ld_A_B && reads .primary [0b01111001#8] .ld_A_C &&
    reads .primary [0b01111010#8] .ld_A_D && reads .primary [0b01111011#8] .ld_A_E &&
    reads .primary [0b01111100#8] .ld_A_H && reads .primary [0b01111101#8] .ld_A_L &&
    reads .primary [0b01111110#8] .ld_A_atHL && reads .primary [0b01111111#8] .ld_A_A) = true := by decide

theorem test_decode_primary_80_to_8F : (
    reads .primary [0b10000000#8] .add_A_B && reads .primary [0b10000001#8] .add_A_C &&
    reads .primary [0b10000010#8] .add_A_D && reads .primary [0b10000011#8] .add_A_E &&
    reads .primary [0b10000100#8] .add_A_H && reads .primary [0b10000101#8] .add_A_L &&
    reads .primary [0b10000110#8] .add_A_atHL && reads .primary [0b10000111#8] .add_A_A &&
    reads .primary [0b10001000#8] .adc_A_B && reads .primary [0b10001001#8] .adc_A_C &&
    reads .primary [0b10001010#8] .adc_A_D && reads .primary [0b10001011#8] .adc_A_E &&
    reads .primary [0b10001100#8] .adc_A_H && reads .primary [0b10001101#8] .adc_A_L &&
    reads .primary [0b10001110#8] .adc_A_atHL && reads .primary [0b10001111#8] .adc_A_A) = true := by decide

theorem test_decode_primary_90_to_9F : (
    reads .primary [0b10010000#8] .sub_B && reads .primary [0b10010001#8] .sub_C && reads .primary [0b10010010#8] .sub_D &&
    reads .primary [0b10010011#8] .sub_E && reads .primary [0b10010100#8] .sub_H && reads .primary [0b10010101#8] .sub_L &&
    reads .primary [0b10010110#8] .sub_atHL && reads .primary [0b10010111#8] .sub_A &&
    reads .primary [0b10011000#8] .sbc_A_B && reads .primary [0b10011001#8] .sbc_A_C &&
    reads .primary [0b10011010#8] .sbc_A_D && reads .primary [0b10011011#8] .sbc_A_E &&
    reads .primary [0b10011100#8] .sbc_A_H && reads .primary [0b10011101#8] .sbc_A_L &&
    reads .primary [0b10011110#8] .sbc_A_atHL && reads .primary [0b10011111#8] .sbc_A_A) = true := by decide

theorem test_decode_primary_A0_to_AF : (
    reads .primary [0b10100000#8] .and_B && reads .primary [0b10100001#8] .and_C && reads .primary [0b10100010#8] .and_D &&
    reads .primary [0b10100011#8] .and_E && reads .primary [0b10100100#8] .and_H && reads .primary [0b10100101#8] .and_L &&
    reads .primary [0b10100110#8] .and_atHL && reads .primary [0b10100111#8] .and_A &&
    reads .primary [0b10101000#8] .xor_B && reads .primary [0b10101001#8] .xor_C && reads .primary [0b10101010#8] .xor_D &&
    reads .primary [0b10101011#8] .xor_E && reads .primary [0b10101100#8] .xor_H && reads .primary [0b10101101#8] .xor_L &&
    reads .primary [0b10101110#8] .xor_atHL && reads .primary [0b10101111#8] .xor_A) = true := by decide

theorem test_decode_primary_B0_to_BF : (
    reads .primary [0b10110000#8] .or_B && reads .primary [0b10110001#8] .or_C && reads .primary [0b10110010#8] .or_D &&
    reads .primary [0b10110011#8] .or_E && reads .primary [0b10110100#8] .or_H && reads .primary [0b10110101#8] .or_L &&
    reads .primary [0b10110110#8] .or_atHL && reads .primary [0b10110111#8] .or_A && reads .primary [0b10111000#8] .cp_B &&
    reads .primary [0b10111001#8] .cp_C && reads .primary [0b10111010#8] .cp_D && reads .primary [0b10111011#8] .cp_E &&
    reads .primary [0b10111100#8] .cp_H && reads .primary [0b10111101#8] .cp_L && reads .primary [0b10111110#8] .cp_atHL &&
    reads .primary [0b10111111#8] .cp_A) = true := by decide

theorem test_decode_primary_C0_to_CF : (
    reads .primary [0b11000000#8] .ret_NZ && reads .primary [0b11000001#8] .pop_BC &&
    reads .primary [0b11000010#8, 0x34#8, 0x12#8] (.jp_NZ_nn 0x1234#16) &&
    reads .primary [0b11000011#8, 0x34#8, 0x12#8] (.jp_nn 0x1234#16) &&
    reads .primary [0b11000100#8, 0x34#8, 0x12#8] (.call_NZ_nn 0x1234#16) && reads .primary [0b11000101#8] .push_BC &&
    reads .primary [0b11000110#8, 0x9C#8] (.add_A_n 0x9C#8) && reads .primary [0b11000111#8] .rst_00 &&
    reads .primary [0b11001000#8] .ret_Z && reads .primary [0b11001001#8] .ret &&
    reads .primary [0b11001010#8, 0x34#8, 0x12#8] (.jp_Z_nn 0x1234#16) && reads .primary [0b11001011#8] .prefix_CB &&
    reads .primary [0b11001100#8, 0x34#8, 0x12#8] (.call_Z_nn 0x1234#16) &&
    reads .primary [0b11001101#8, 0x34#8, 0x12#8] (.call_nn 0x1234#16) &&
    reads .primary [0b11001110#8, 0x9C#8] (.adc_A_n 0x9C#8) && reads .primary [0b11001111#8] .rst_08) = true := by decide

theorem test_decode_primary_D0_to_DF : (
    reads .primary [0b11010000#8] .ret_NC && reads .primary [0b11010001#8] .pop_DE &&
    reads .primary [0b11010010#8, 0x34#8, 0x12#8] (.jp_NC_nn 0x1234#16) &&
    reads .primary [0b11010011#8] (.unmapped 0b11010011#8) &&
    reads .primary [0b11010100#8, 0x34#8, 0x12#8] (.call_NC_nn 0x1234#16) && reads .primary [0b11010101#8] .push_DE &&
    reads .primary [0b11010110#8, 0x9C#8] (.sub_n 0x9C#8) && reads .primary [0b11010111#8] .rst_10 &&
    reads .primary [0b11011000#8] .ret_C && reads .primary [0b11011001#8] .reti &&
    reads .primary [0b11011010#8, 0x34#8, 0x12#8] (.jp_C_nn 0x1234#16) &&
    reads .primary [0b11011011#8] (.unmapped 0b11011011#8) &&
    reads .primary [0b11011100#8, 0x34#8, 0x12#8] (.call_C_nn 0x1234#16) &&
    reads .primary [0b11011101#8] (.unmapped 0b11011101#8) && reads .primary [0b11011110#8, 0x9C#8] (.sbc_A_n 0x9C#8) &&
    reads .primary [0b11011111#8] .rst_18) = true := by decide

theorem test_decode_primary_E0_to_EF : (
    reads .primary [0b11100000#8, 0x9C#8] (.ldh_atN_A 0x9C#8) && reads .primary [0b11100001#8] .pop_HL &&
    reads .primary [0b11100010#8] .ld_atC_A && reads .primary [0b11100011#8] (.unmapped 0b11100011#8) &&
    reads .primary [0b11100100#8] (.unmapped 0b11100100#8) && reads .primary [0b11100101#8] .push_HL &&
    reads .primary [0b11100110#8, 0x9C#8] (.and_n 0x9C#8) && reads .primary [0b11100111#8] .rst_20 &&
    reads .primary [0b11101000#8, 0x9C#8] (.add_SP_e 0x9C#8) && reads .primary [0b11101001#8] .jp_atHL &&
    reads .primary [0b11101010#8, 0x34#8, 0x12#8] (.ld_atNN_A 0x1234#16) &&
    reads .primary [0b11101011#8] (.unmapped 0b11101011#8) && reads .primary [0b11101100#8] (.unmapped 0b11101100#8) &&
    reads .primary [0b11101101#8] (.unmapped 0b11101101#8) && reads .primary [0b11101110#8, 0x9C#8] (.xor_n 0x9C#8) &&
    reads .primary [0b11101111#8] .rst_28) = true := by decide

theorem test_decode_primary_F0_to_FF : (
    reads .primary [0b11110000#8, 0x9C#8] (.ldh_A_atN 0x9C#8) && reads .primary [0b11110001#8] .pop_AF &&
    reads .primary [0b11110010#8] .ld_A_atC && reads .primary [0b11110011#8] .di &&
    reads .primary [0b11110100#8] (.unmapped 0b11110100#8) && reads .primary [0b11110101#8] .push_AF &&
    reads .primary [0b11110110#8, 0x9C#8] (.or_n 0x9C#8) && reads .primary [0b11110111#8] .rst_30 &&
    reads .primary [0b11111000#8, 0x9C#8] (.ld_HL_SPe 0x9C#8) && reads .primary [0b11111001#8] .ld_SP_HL &&
    reads .primary [0b11111010#8, 0x34#8, 0x12#8] (.ld_A_atNN 0x1234#16) && reads .primary [0b11111011#8] .ei &&
    reads .primary [0b11111100#8] (.unmapped 0b11111100#8) && reads .primary [0b11111101#8] (.unmapped 0b11111101#8) &&
    reads .primary [0b11111110#8, 0x9C#8] (.cp_n 0x9C#8) && reads .primary [0b11111111#8] .rst_38) = true := by decide

theorem test_decode_extended_00_to_0F : (
    reads .extended [0b00000000#8] .rlc_B && reads .extended [0b00000001#8] .rlc_C &&
    reads .extended [0b00000010#8] .rlc_D && reads .extended [0b00000011#8] .rlc_E &&
    reads .extended [0b00000100#8] .rlc_H && reads .extended [0b00000101#8] .rlc_L &&
    reads .extended [0b00000110#8] .rlc_atHL && reads .extended [0b00000111#8] .rlc_A &&
    reads .extended [0b00001000#8] .rrc_B && reads .extended [0b00001001#8] .rrc_C &&
    reads .extended [0b00001010#8] .rrc_D && reads .extended [0b00001011#8] .rrc_E &&
    reads .extended [0b00001100#8] .rrc_H && reads .extended [0b00001101#8] .rrc_L &&
    reads .extended [0b00001110#8] .rrc_atHL && reads .extended [0b00001111#8] .rrc_A) = true := by decide

theorem test_decode_extended_10_to_1F : (
    reads .extended [0b00010000#8] .rl_B && reads .extended [0b00010001#8] .rl_C && reads .extended [0b00010010#8] .rl_D &&
    reads .extended [0b00010011#8] .rl_E && reads .extended [0b00010100#8] .rl_H && reads .extended [0b00010101#8] .rl_L &&
    reads .extended [0b00010110#8] .rl_atHL && reads .extended [0b00010111#8] .rl_A &&
    reads .extended [0b00011000#8] .rr_B && reads .extended [0b00011001#8] .rr_C && reads .extended [0b00011010#8] .rr_D &&
    reads .extended [0b00011011#8] .rr_E && reads .extended [0b00011100#8] .rr_H && reads .extended [0b00011101#8] .rr_L &&
    reads .extended [0b00011110#8] .rr_atHL && reads .extended [0b00011111#8] .rr_A) = true := by decide

theorem test_decode_extended_20_to_2F : (
    reads .extended [0b00100000#8] .sla_B && reads .extended [0b00100001#8] .sla_C &&
    reads .extended [0b00100010#8] .sla_D && reads .extended [0b00100011#8] .sla_E &&
    reads .extended [0b00100100#8] .sla_H && reads .extended [0b00100101#8] .sla_L &&
    reads .extended [0b00100110#8] .sla_atHL && reads .extended [0b00100111#8] .sla_A &&
    reads .extended [0b00101000#8] .sra_B && reads .extended [0b00101001#8] .sra_C &&
    reads .extended [0b00101010#8] .sra_D && reads .extended [0b00101011#8] .sra_E &&
    reads .extended [0b00101100#8] .sra_H && reads .extended [0b00101101#8] .sra_L &&
    reads .extended [0b00101110#8] .sra_atHL && reads .extended [0b00101111#8] .sra_A) = true := by decide

theorem test_decode_extended_30_to_3F : (
    reads .extended [0b00110000#8] .swap_B && reads .extended [0b00110001#8] .swap_C &&
    reads .extended [0b00110010#8] .swap_D && reads .extended [0b00110011#8] .swap_E &&
    reads .extended [0b00110100#8] .swap_H && reads .extended [0b00110101#8] .swap_L &&
    reads .extended [0b00110110#8] .swap_atHL && reads .extended [0b00110111#8] .swap_A &&
    reads .extended [0b00111000#8] .srl_B && reads .extended [0b00111001#8] .srl_C &&
    reads .extended [0b00111010#8] .srl_D && reads .extended [0b00111011#8] .srl_E &&
    reads .extended [0b00111100#8] .srl_H && reads .extended [0b00111101#8] .srl_L &&
    reads .extended [0b00111110#8] .srl_atHL && reads .extended [0b00111111#8] .srl_A) = true := by decide

theorem test_decode_extended_40_to_4F : (
    reads .extended [0b01000000#8] .bit_0_B && reads .extended [0b01000001#8] .bit_0_C &&
    reads .extended [0b01000010#8] .bit_0_D && reads .extended [0b01000011#8] .bit_0_E &&
    reads .extended [0b01000100#8] .bit_0_H && reads .extended [0b01000101#8] .bit_0_L &&
    reads .extended [0b01000110#8] .bit_0_atHL && reads .extended [0b01000111#8] .bit_0_A &&
    reads .extended [0b01001000#8] .bit_1_B && reads .extended [0b01001001#8] .bit_1_C &&
    reads .extended [0b01001010#8] .bit_1_D && reads .extended [0b01001011#8] .bit_1_E &&
    reads .extended [0b01001100#8] .bit_1_H && reads .extended [0b01001101#8] .bit_1_L &&
    reads .extended [0b01001110#8] .bit_1_atHL && reads .extended [0b01001111#8] .bit_1_A) = true := by decide

theorem test_decode_extended_50_to_5F : (
    reads .extended [0b01010000#8] .bit_2_B && reads .extended [0b01010001#8] .bit_2_C &&
    reads .extended [0b01010010#8] .bit_2_D && reads .extended [0b01010011#8] .bit_2_E &&
    reads .extended [0b01010100#8] .bit_2_H && reads .extended [0b01010101#8] .bit_2_L &&
    reads .extended [0b01010110#8] .bit_2_atHL && reads .extended [0b01010111#8] .bit_2_A &&
    reads .extended [0b01011000#8] .bit_3_B && reads .extended [0b01011001#8] .bit_3_C &&
    reads .extended [0b01011010#8] .bit_3_D && reads .extended [0b01011011#8] .bit_3_E &&
    reads .extended [0b01011100#8] .bit_3_H && reads .extended [0b01011101#8] .bit_3_L &&
    reads .extended [0b01011110#8] .bit_3_atHL && reads .extended [0b01011111#8] .bit_3_A) = true := by decide

theorem test_decode_extended_60_to_6F : (
    reads .extended [0b01100000#8] .bit_4_B && reads .extended [0b01100001#8] .bit_4_C &&
    reads .extended [0b01100010#8] .bit_4_D && reads .extended [0b01100011#8] .bit_4_E &&
    reads .extended [0b01100100#8] .bit_4_H && reads .extended [0b01100101#8] .bit_4_L &&
    reads .extended [0b01100110#8] .bit_4_atHL && reads .extended [0b01100111#8] .bit_4_A &&
    reads .extended [0b01101000#8] .bit_5_B && reads .extended [0b01101001#8] .bit_5_C &&
    reads .extended [0b01101010#8] .bit_5_D && reads .extended [0b01101011#8] .bit_5_E &&
    reads .extended [0b01101100#8] .bit_5_H && reads .extended [0b01101101#8] .bit_5_L &&
    reads .extended [0b01101110#8] .bit_5_atHL && reads .extended [0b01101111#8] .bit_5_A) = true := by decide

theorem test_decode_extended_70_to_7F : (
    reads .extended [0b01110000#8] .bit_6_B && reads .extended [0b01110001#8] .bit_6_C &&
    reads .extended [0b01110010#8] .bit_6_D && reads .extended [0b01110011#8] .bit_6_E &&
    reads .extended [0b01110100#8] .bit_6_H && reads .extended [0b01110101#8] .bit_6_L &&
    reads .extended [0b01110110#8] .bit_6_atHL && reads .extended [0b01110111#8] .bit_6_A &&
    reads .extended [0b01111000#8] .bit_7_B && reads .extended [0b01111001#8] .bit_7_C &&
    reads .extended [0b01111010#8] .bit_7_D && reads .extended [0b01111011#8] .bit_7_E &&
    reads .extended [0b01111100#8] .bit_7_H && reads .extended [0b01111101#8] .bit_7_L &&
    reads .extended [0b01111110#8] .bit_7_atHL && reads .extended [0b01111111#8] .bit_7_A) = true := by decide

theorem test_decode_extended_80_to_8F : (
    reads .extended [0b10000000#8] .res_0_B && reads .extended [0b10000001#8] .res_0_C &&
    reads .extended [0b10000010#8] .res_0_D && reads .extended [0b10000011#8] .res_0_E &&
    reads .extended [0b10000100#8] .res_0_H && reads .extended [0b10000101#8] .res_0_L &&
    reads .extended [0b10000110#8] .res_0_atHL && reads .extended [0b10000111#8] .res_0_A &&
    reads .extended [0b10001000#8] .res_1_B && reads .extended [0b10001001#8] .res_1_C &&
    reads .extended [0b10001010#8] .res_1_D && reads .extended [0b10001011#8] .res_1_E &&
    reads .extended [0b10001100#8] .res_1_H && reads .extended [0b10001101#8] .res_1_L &&
    reads .extended [0b10001110#8] .res_1_atHL && reads .extended [0b10001111#8] .res_1_A) = true := by decide

theorem test_decode_extended_90_to_9F : (
    reads .extended [0b10010000#8] .res_2_B && reads .extended [0b10010001#8] .res_2_C &&
    reads .extended [0b10010010#8] .res_2_D && reads .extended [0b10010011#8] .res_2_E &&
    reads .extended [0b10010100#8] .res_2_H && reads .extended [0b10010101#8] .res_2_L &&
    reads .extended [0b10010110#8] .res_2_atHL && reads .extended [0b10010111#8] .res_2_A &&
    reads .extended [0b10011000#8] .res_3_B && reads .extended [0b10011001#8] .res_3_C &&
    reads .extended [0b10011010#8] .res_3_D && reads .extended [0b10011011#8] .res_3_E &&
    reads .extended [0b10011100#8] .res_3_H && reads .extended [0b10011101#8] .res_3_L &&
    reads .extended [0b10011110#8] .res_3_atHL && reads .extended [0b10011111#8] .res_3_A) = true := by decide

theorem test_decode_extended_A0_to_AF : (
    reads .extended [0b10100000#8] .res_4_B && reads .extended [0b10100001#8] .res_4_C &&
    reads .extended [0b10100010#8] .res_4_D && reads .extended [0b10100011#8] .res_4_E &&
    reads .extended [0b10100100#8] .res_4_H && reads .extended [0b10100101#8] .res_4_L &&
    reads .extended [0b10100110#8] .res_4_atHL && reads .extended [0b10100111#8] .res_4_A &&
    reads .extended [0b10101000#8] .res_5_B && reads .extended [0b10101001#8] .res_5_C &&
    reads .extended [0b10101010#8] .res_5_D && reads .extended [0b10101011#8] .res_5_E &&
    reads .extended [0b10101100#8] .res_5_H && reads .extended [0b10101101#8] .res_5_L &&
    reads .extended [0b10101110#8] .res_5_atHL && reads .extended [0b10101111#8] .res_5_A) = true := by decide

theorem test_decode_extended_B0_to_BF : (
    reads .extended [0b10110000#8] .res_6_B && reads .extended [0b10110001#8] .res_6_C &&
    reads .extended [0b10110010#8] .res_6_D && reads .extended [0b10110011#8] .res_6_E &&
    reads .extended [0b10110100#8] .res_6_H && reads .extended [0b10110101#8] .res_6_L &&
    reads .extended [0b10110110#8] .res_6_atHL && reads .extended [0b10110111#8] .res_6_A &&
    reads .extended [0b10111000#8] .res_7_B && reads .extended [0b10111001#8] .res_7_C &&
    reads .extended [0b10111010#8] .res_7_D && reads .extended [0b10111011#8] .res_7_E &&
    reads .extended [0b10111100#8] .res_7_H && reads .extended [0b10111101#8] .res_7_L &&
    reads .extended [0b10111110#8] .res_7_atHL && reads .extended [0b10111111#8] .res_7_A) = true := by decide

theorem test_decode_extended_C0_to_CF : (
    reads .extended [0b11000000#8] .set_0_B && reads .extended [0b11000001#8] .set_0_C &&
    reads .extended [0b11000010#8] .set_0_D && reads .extended [0b11000011#8] .set_0_E &&
    reads .extended [0b11000100#8] .set_0_H && reads .extended [0b11000101#8] .set_0_L &&
    reads .extended [0b11000110#8] .set_0_atHL && reads .extended [0b11000111#8] .set_0_A &&
    reads .extended [0b11001000#8] .set_1_B && reads .extended [0b11001001#8] .set_1_C &&
    reads .extended [0b11001010#8] .set_1_D && reads .extended [0b11001011#8] .set_1_E &&
    reads .extended [0b11001100#8] .set_1_H && reads .extended [0b11001101#8] .set_1_L &&
    reads .extended [0b11001110#8] .set_1_atHL && reads .extended [0b11001111#8] .set_1_A) = true := by decide

theorem test_decode_extended_D0_to_DF : (
    reads .extended [0b11010000#8] .set_2_B && reads .extended [0b11010001#8] .set_2_C &&
    reads .extended [0b11010010#8] .set_2_D && reads .extended [0b11010011#8] .set_2_E &&
    reads .extended [0b11010100#8] .set_2_H && reads .extended [0b11010101#8] .set_2_L &&
    reads .extended [0b11010110#8] .set_2_atHL && reads .extended [0b11010111#8] .set_2_A &&
    reads .extended [0b11011000#8] .set_3_B && reads .extended [0b11011001#8] .set_3_C &&
    reads .extended [0b11011010#8] .set_3_D && reads .extended [0b11011011#8] .set_3_E &&
    reads .extended [0b11011100#8] .set_3_H && reads .extended [0b11011101#8] .set_3_L &&
    reads .extended [0b11011110#8] .set_3_atHL && reads .extended [0b11011111#8] .set_3_A) = true := by decide

theorem test_decode_extended_E0_to_EF : (
    reads .extended [0b11100000#8] .set_4_B && reads .extended [0b11100001#8] .set_4_C &&
    reads .extended [0b11100010#8] .set_4_D && reads .extended [0b11100011#8] .set_4_E &&
    reads .extended [0b11100100#8] .set_4_H && reads .extended [0b11100101#8] .set_4_L &&
    reads .extended [0b11100110#8] .set_4_atHL && reads .extended [0b11100111#8] .set_4_A &&
    reads .extended [0b11101000#8] .set_5_B && reads .extended [0b11101001#8] .set_5_C &&
    reads .extended [0b11101010#8] .set_5_D && reads .extended [0b11101011#8] .set_5_E &&
    reads .extended [0b11101100#8] .set_5_H && reads .extended [0b11101101#8] .set_5_L &&
    reads .extended [0b11101110#8] .set_5_atHL && reads .extended [0b11101111#8] .set_5_A) = true := by decide

theorem test_decode_extended_F0_to_FF : (
    reads .extended [0b11110000#8] .set_6_B && reads .extended [0b11110001#8] .set_6_C &&
    reads .extended [0b11110010#8] .set_6_D && reads .extended [0b11110011#8] .set_6_E &&
    reads .extended [0b11110100#8] .set_6_H && reads .extended [0b11110101#8] .set_6_L &&
    reads .extended [0b11110110#8] .set_6_atHL && reads .extended [0b11110111#8] .set_6_A &&
    reads .extended [0b11111000#8] .set_7_B && reads .extended [0b11111001#8] .set_7_C &&
    reads .extended [0b11111010#8] .set_7_D && reads .extended [0b11111011#8] .set_7_E &&
    reads .extended [0b11111100#8] .set_7_H && reads .extended [0b11111101#8] .set_7_L &&
    reads .extended [0b11111110#8] .set_7_atHL && reads .extended [0b11111111#8] .set_7_A) = true := by decide

/-- R108: as text the prefix and the byte after it are one instruction; a second 0xCB is an opcode of the extended table. -/
theorem test_decode_text :
    decodeText [0xCB#8, 0x7C#8, 0x00#8] = .ok (.bit_7_H, [0x00#8]) ∧ decodeText [0xCB#8, 0xCB#8] = .ok (.set_1_E, []) ∧
    decodeText [0x7C#8] = .ok (.ld_A_H, []) := by decide

/-- An instruction cut off in its bytes is rejected by name. -/
theorem test_decode_rejects_truncated :
    decode .primary [] = .error .noOpcode ∧ decode .primary [0x3E#8] = .error (.missingOperand 0x3E#8) ∧
    decode .primary [0xC3#8, 0x00#8] = .error (.missingOperand 0xC3#8) ∧ decode .extended [] = .error .noOpcode := by decide

theorem test_encode_words :
    encode (.call_nn 0x8001#16) = [0xCD#8, 0x01#8, 0x80#8] ∧ encode .swap_A = [0xCB#8, 0x37#8] ∧
    encode (.jr_e 0xFE#8) = [0x18#8, 0xFE#8] ∧ encode (.unmapped 0xD3#8) = [0xD3#8] := by decide

/-! ## One step -/

/-- A machine after reset but for `pc`, with bytes placed there. -/
def boot (pc : Word) (bytes : List Byte) : State := State.placeBytes { State.reset with pc := pc } pc bytes

/-- The same with another byte of memory. -/
def poke (a : Word) (v : Byte) (s : State) : State := { s with mem := s.mem.write a.toNat v }

/-- The second step of a prefixed instruction: Extended mode, the byte at `pc`. -/
def bootExtended (pc : Word) (byte : Byte) : State := { boot pc [byte] with mode := .extended }

/-- The state a step answers. -/
def after (s : State) : Option State :=
  match step s with
  | .next t => some t
  | _ => none

/-- Vector A1: `ADD A,B`. -/
theorem test_A1_ADD_A_B :
    (after { boot 0x0000#16 [0x80#8] with a := 0x3A#8, b := 0xC6#8, f := 0x00#8 }).map (fun t => (t.a, t.f, t.pc)) =
      some (0x00#8, 0xB0#8, 0x0001#16) := by decide

/-- Vector A4: `ADD A,(HL)`. -/
theorem test_A4_ADD_A_HL :
    (after { poke 0xC000#16 0xFF#8 (boot 0x0000#16 [0x86#8]) with a := 0x01#8, h := 0xC0#8, l := 0x00#8, f := 0x00#8 }).map
      (fun t => (t.a, t.f, t.pc)) =
      some (0x00#8, 0xB0#8, 0x0001#16) := by decide

/-- Vector A7: `ADC A,n`. -/
theorem test_A7_ADC_A_n :
    (after { boot 0x0000#16 [0xCE#8, 0xFF#8] with a := 0x00#8, f := 0x10#8 }).map (fun t => (t.a, t.f, t.pc)) =
      some (0x00#8, 0xB0#8, 0x0002#16) := by decide

/-- Vector A9: `ADC A,E`. -/
theorem test_A9_ADC_A_E :
    (after { boot 0x0000#16 [0x8B#8] with a := 0x7F#8, e := 0x80#8, f := 0x10#8 }).map (fun t => (t.a, t.f, t.pc)) =
      some (0x00#8, 0xB0#8, 0x0001#16) := by decide

/-- Vector A12: `SUB (HL)`. -/
theorem test_A12_SUB_HL :
    (after { poke 0xC000#16 0x40#8 (boot 0x0000#16 [0x96#8]) with a := 0x3E#8, h := 0xC0#8, l := 0x00#8, f := 0x00#8 }).map
      (fun t => (t.a, t.f, t.pc)) =
      some (0xFE#8, 0x50#8, 0x0001#16) := by decide

/-- Vector A15: `SBC A,n`. -/
theorem test_A15_SBC_A_n :
    (after { boot 0x0000#16 [0xDE#8, 0x00#8] with a := 0x00#8, f := 0x10#8 }).map (fun t => (t.a, t.f, t.pc)) =
      some (0xFF#8, 0x70#8, 0x0002#16) := by decide

/-- Vector A16: `SBC A,n`. -/
theorem test_A16_SBC_A_n :
    (after { boot 0x0000#16 [0xDE#8, 0xFF#8] with a := 0x00#8, f := 0x10#8 }).map (fun t => (t.a, t.f, t.pc)) =
      some (0x00#8, 0xF0#8, 0x0002#16) := by decide

/-- Vector A18: `SBC A,A`. -/
theorem test_A18_SBC_A_A :
    (after { boot 0x0000#16 [0x9F#8] with a := 0x77#8, f := 0x10#8 }).map (fun t => (t.a, t.f, t.pc)) =
      some (0xFF#8, 0x70#8, 0x0001#16) := by decide

/-- Vector A20: `AND n`. -/
theorem test_A20_AND_n :
    (after { boot 0x0000#16 [0xE6#8, 0x0F#8] with a := 0xF0#8, f := 0x10#8 }).map (fun t => (t.a, t.f, t.pc)) =
      some (0x00#8, 0xA0#8, 0x0002#16) := by decide

/-- Vector A22: `OR D`. -/
theorem test_A22_OR_D :
    (after { boot 0x0000#16 [0xB2#8] with a := 0x50#8, d := 0x0A#8, f := 0xF0#8 }).map (fun t => (t.a, t.f, t.pc)) =
      some (0x5A#8, 0x00#8, 0x0001#16) := by decide

/-- Vector A25: `XOR A`. -/
theorem test_A25_XOR_A :
    (after { boot 0x0000#16 [0xAF#8] with a := 0xC3#8, f := 0xF0#8 }).map (fun t => (t.a, t.f, t.pc)) =
      some (0x00#8, 0x80#8, 0x0001#16) := by decide

/-- Vector A28: `CP B`. -/
theorem test_A28_CP_B :
    (after { boot 0x0000#16 [0xB8#8] with a := 0x3C#8, b := 0x2F#8, f := 0x00#8 }).map (fun t => (t.a, t.f, t.pc)) =
      some (0x3C#8, 0x60#8, 0x0001#16) := by decide

/-- Vector A30: `CP (HL)`. -/
theorem test_A30_CP_HL :
    (after { poke 0xC000#16 0x40#8 (boot 0x0000#16 [0xBE#8]) with a := 0x3C#8, h := 0xC0#8, l := 0x00#8, f := 0x00#8 }).map
      (fun t => (t.a, t.f, t.pc)) =
      some (0x3C#8, 0x50#8, 0x0001#16) := by decide

/-- Vector A32: `INC B`. -/
theorem test_A32_INC_B :
    (after { boot 0x0000#16 [0x04#8] with b := 0xFF#8, f := 0x10#8 }).map (fun t => (t.b, t.f, t.pc)) =
      some (0x00#8, 0xB0#8, 0x0001#16) := by decide

/-- Vector A35: `INC (HL)`. -/
theorem test_A35_INC_HL :
    (after { poke 0xC000#16 0x4F#8 (boot 0x0000#16 [0x34#8]) with h := 0xC0#8, l := 0x00#8, f := 0x10#8 }).map
      (fun t => (t.byteAt 0xC000#16, t.f, t.pc)) =
      some (0x50#8, 0x30#8, 0x0001#16) := by decide

/-- Vector A36: `DEC B`. -/
theorem test_A36_DEC_B :
    (after { boot 0x0000#16 [0x05#8] with b := 0x01#8, f := 0x10#8 }).map (fun t => (t.b, t.f, t.pc)) =
      some (0x00#8, 0xD0#8, 0x0001#16) := by decide

/-- Vector A39: `DEC (HL)`. -/
theorem test_A39_DEC_HL :
    (after { poke 0xC000#16 0x00#8 (boot 0x0000#16 [0x35#8]) with h := 0xC0#8, l := 0x00#8, f := 0x10#8 }).map
      (fun t => (t.byteAt 0xC000#16, t.f, t.pc)) =
      some (0xFF#8, 0x70#8, 0x0001#16) := by decide

/-- Vector A40: `DAA`. -/
theorem test_A40_DAA :
    (after { boot 0x0000#16 [0x27#8] with a := 0x7D#8, f := 0x00#8 }).map (fun t => (t.a, t.f, t.pc)) =
      some (0x83#8, 0x00#8, 0x0001#16) := by decide

/-- Vector A41: `DAA`. -/
theorem test_A41_DAA :
    (after { boot 0x0000#16 [0x27#8] with a := 0x9A#8, f := 0x00#8 }).map (fun t => (t.a, t.f, t.pc)) =
      some (0x00#8, 0x90#8, 0x0001#16) := by decide

/-- Vector A45: `DAA`. -/
theorem test_A45_DAA :
    (after { boot 0x0000#16 [0x27#8] with a := 0x4B#8, f := 0x60#8 }).map (fun t => (t.a, t.f, t.pc)) =
      some (0x45#8, 0x40#8, 0x0001#16) := by decide

/-- Vector A46: `DAA`. -/
theorem test_A46_DAA :
    (after { boot 0x0000#16 [0x27#8] with a := 0xFA#8, f := 0x70#8 }).map (fun t => (t.a, t.f, t.pc)) =
      some (0x94#8, 0x50#8, 0x0001#16) := by decide

/-- Vector A48: `CPL`. -/
theorem test_A48_CPL :
    (after { boot 0x0000#16 [0x2F#8] with a := 0x35#8, f := 0x90#8 }).map (fun t => (t.a, t.f, t.pc)) =
      some (0xCA#8, 0xF0#8, 0x0001#16) := by decide

/-- Vector A50: `SCF`. -/
theorem test_A50_SCF :
    (after { boot 0x0000#16 [0x37#8] with a := 0x12#8, f := 0xE0#8 }).map (fun t => (t.a, t.f, t.pc)) =
      some (0x12#8, 0x90#8, 0x0001#16) := by decide

/-- Vector A52: `CCF`. -/
theorem test_A52_CCF :
    (after { boot 0x0000#16 [0x3F#8] with f := 0xF0#8 }).map (fun t => (t.f, t.pc)) =
      some (0x80#8, 0x0001#16) := by decide

/-- Vector W1: `ADD HL,BC`. -/
theorem test_W1_ADD_HL_BC :
    (after { boot 0x0000#16 [0x09#8] with h := 0x8A#8, l := 0x23#8, b := 0x06#8, c := 0x05#8, f := 0xC0#8 }).map
      (fun t => (t.pair .hl, t.f, t.pc)) =
      some (0x9028#16, 0x20#8, 0x0001#16) := by decide

/-- Vector W5: `ADD HL,SP`. -/
theorem test_W5_ADD_HL_SP :
    (after { boot 0x0000#16 [0x39#8] with h := 0xFF#8, l := 0xFF#8, sp := 0x0001#16, f := 0x00#8 }).map
      (fun t => (t.pair .hl, t.sp, t.f, t.pc)) =
      some (0x0000#16, 0x0001#16, 0xB0#8, 0x0001#16) := by decide

/-- Vector W6: `ADD HL,SP`. -/
theorem test_W6_ADD_HL_SP :
    (after { boot 0x0000#16 [0x39#8]
      with h := 0xFF#8, l := 0xFF#8, sp := 0x0001#16, f := 0x00#8, params := { Params.standard with hwFlagCompat := true } }).map
      (fun t => (t.pair .hl, t.sp, t.f, t.pc)) =
      some (0x0000#16, 0x0001#16, 0x30#8, 0x0001#16) := by decide

/-- Vector W8: `INC BC`. -/
theorem test_W8_INC_BC :
    (after { boot 0x0000#16 [0x03#8] with b := 0xFF#8, c := 0xFF#8, f := 0x50#8 }).map (fun t => (t.pair .bc, t.f, t.pc)) =
      some (0x0000#16, 0x50#8, 0x0001#16) := by decide

/-- Vector W11: `DEC DE`. -/
theorem test_W11_DEC_DE :
    (after { boot 0x0000#16 [0x1B#8] with d := 0x00#8, e := 0x00#8, f := 0x00#8 }).map (fun t => (t.pair .de, t.f, t.pc)) =
      some (0xFFFF#16, 0x00#8, 0x0001#16) := by decide

/-- Vector W16: `ADD SP,e`. -/
theorem test_W16_ADD_SP_e :
    (after { boot 0x0000#16 [0xE8#8, 0xFF#8] with sp := 0x0001#16, f := 0x00#8 }).map (fun t => (t.sp, t.f, t.pc)) =
      some (0x0000#16, 0x30#8, 0x0002#16) := by decide

/-- Vector W18: `ADD SP,e`. -/
theorem test_W18_ADD_SP_e :
    (after { boot 0x0000#16 [0xE8#8, 0x80#8] with sp := 0x0080#16, f := 0x00#8 }).map (fun t => (t.sp, t.f, t.pc)) =
      some (0x0000#16, 0x10#8, 0x0002#16) := by decide

/-- Vector Q1: `RLCA`. -/
theorem test_Q1_RLCA :
    (after { boot 0x0000#16 [0x07#8] with a := 0x85#8, f := 0xE0#8 }).map (fun t => (t.a, t.f, t.pc)) =
      some (0x0B#8, 0x10#8, 0x0001#16) := by decide

/-- Vector Q3: `RLCA`. -/
theorem test_Q3_RLCA :
    (after { boot 0x0000#16 [0x07#8]
      with a := 0x00#8, f := 0x10#8, params := { Params.standard with hwFlagCompat := true } }).map
      (fun t => (t.a, t.f, t.pc)) =
      some (0x00#8, 0x00#8, 0x0001#16) := by decide

/-- Vector Q4: `RRCA`. -/
theorem test_Q4_RRCA :
    (after { boot 0x0000#16 [0x0F#8] with a := 0x3B#8, f := 0x00#8 }).map (fun t => (t.a, t.f, t.pc)) =
      some (0x9D#8, 0x10#8, 0x0001#16) := by decide

/-- Vector Q6: `RLA`. -/
theorem test_Q6_RLA :
    (after { boot 0x0000#16 [0x17#8] with a := 0x95#8, f := 0x10#8 }).map (fun t => (t.a, t.f, t.pc)) =
      some (0x2B#8, 0x10#8, 0x0001#16) := by decide

/-- Vector Q8: `RLA`. -/
theorem test_Q8_RLA :
    (after { boot 0x0000#16 [0x17#8]
      with a := 0x80#8, f := 0x00#8, params := { Params.standard with hwFlagCompat := true } }).map
      (fun t => (t.a, t.f, t.pc)) =
      some (0x00#8, 0x10#8, 0x0001#16) := by decide

/-- Vector Q11: `RRA`. -/
theorem test_Q11_RRA :
    (after { boot 0x0000#16 [0x1F#8] with a := 0x00#8, f := 0x10#8 }).map (fun t => (t.a, t.f, t.pc)) =
      some (0x80#8, 0x00#8, 0x0001#16) := by decide

/-- Vector Q12: `RLC B`. -/
theorem test_Q12_RLC_B :
    (after { bootExtended 0x0001#16 0x00#8 with b := 0x85#8, f := 0x00#8 }).map (fun t => (t.b, t.f, t.pc)) =
      some (0x0B#8, 0x10#8, 0x0002#16) := by decide

/-- Vector Q14: `RRC C`. -/
theorem test_Q14_RRC_C :
    (after { bootExtended 0x0001#16 0x09#8 with c := 0x01#8, f := 0x00#8 }).map (fun t => (t.c, t.f, t.pc)) =
      some (0x80#8, 0x10#8, 0x0002#16) := by decide

/-- Vector Q17: `RL L`. -/
theorem test_Q17_RL_L :
    (after { bootExtended 0x0001#16 0x15#8 with l := 0x11#8, f := 0x10#8 }).map (fun t => (t.l, t.f, t.pc)) =
      some (0x23#8, 0x00#8, 0x0002#16) := by decide

/-- Vector Q19: `RR (HL)`. -/
theorem test_Q19_RR_HL :
    (after { poke 0xC000#16 0x8A#8 (bootExtended 0x0001#16 0x1E#8) with h := 0xC0#8, l := 0x00#8, f := 0x10#8 }).map
      (fun t => (t.byteAt 0xC000#16, t.f, t.pc)) =
      some (0xC5#8, 0x00#8, 0x0002#16) := by decide

/-- Vector Q21: `SLA A`. -/
theorem test_Q21_SLA_A :
    (after { bootExtended 0x0001#16 0x27#8 with a := 0xFF#8, f := 0x10#8 }).map (fun t => (t.a, t.f, t.pc)) =
      some (0xFE#8, 0x10#8, 0x0002#16) := by decide

/-- Vector Q22: `SRA A`. -/
theorem test_Q22_SRA_A :
    (after { bootExtended 0x0001#16 0x2F#8 with a := 0x8A#8, f := 0x00#8 }).map (fun t => (t.a, t.f, t.pc)) =
      some (0xC5#8, 0x00#8, 0x0002#16) := by decide

/-- Vector Q25: `SWAP A`. -/
theorem test_Q25_SWAP_A :
    (after { bootExtended 0x0001#16 0x37#8 with a := 0xF1#8, f := 0xF0#8 }).map (fun t => (t.a, t.f, t.pc)) =
      some (0x1F#8, 0x00#8, 0x0002#16) := by decide

/-- Vector Q28: `SRL (HL)`. -/
theorem test_Q28_SRL_HL :
    (after { poke 0xC000#16 0xFF#8 (bootExtended 0x0001#16 0x3E#8) with h := 0xC0#8, l := 0x00#8, f := 0x00#8 }).map
      (fun t => (t.byteAt 0xC000#16, t.f, t.pc)) =
      some (0x7F#8, 0x10#8, 0x0002#16) := by decide

/-- Vector Q29: `SRL E`. -/
theorem test_Q29_SRL_E :
    (after { bootExtended 0x0001#16 0x3B#8 with e := 0x80#8, f := 0x10#8 }).map (fun t => (t.e, t.f, t.pc)) =
      some (0x40#8, 0x00#8, 0x0002#16) := by decide

/-- Vector B1: `BIT 7,H`. -/
theorem test_B1_BIT_7_H :
    (after { bootExtended 0x0001#16 0x7C#8 with h := 0x80#8, f := 0x00#8 }).map (fun t => (t.h, t.f, t.pc)) =
      some (0x80#8, 0x20#8, 0x0002#16) := by decide

/-- Vector B2: `BIT 7,H`. -/
theorem test_B2_BIT_7_H :
    (after { bootExtended 0x0001#16 0x7C#8 with h := 0x7F#8, f := 0x50#8 }).map (fun t => (t.h, t.f, t.pc)) =
      some (0x7F#8, 0xB0#8, 0x0002#16) := by decide

/-- Vector B5: `BIT 3,(HL)`. -/
theorem test_B5_BIT_3_HL :
    (after { poke 0xC000#16 0x08#8 (bootExtended 0x0001#16 0x5E#8) with h := 0xC0#8, l := 0x00#8, f := 0x90#8 }).map
      (fun t => (t.byteAt 0xC000#16, t.f, t.pc)) =
      some (0x08#8, 0x30#8, 0x0002#16) := by decide

/-- Vector B8: `SET 0,(HL)`. -/
theorem test_B8_SET_0_HL :
    (after { poke 0xC000#16 0xFE#8 (bootExtended 0x0001#16 0xC6#8) with h := 0xC0#8, l := 0x00#8, f := 0x00#8 }).map
      (fun t => (t.byteAt 0xC000#16, t.f, t.pc)) =
      some (0xFF#8, 0x00#8, 0x0002#16) := by decide

/-- Vector B10: `SET 1,E`. -/
theorem test_B10_SET_1_E :
    (after { bootExtended 0x0001#16 0xCB#8 with e := 0x00#8, f := 0x00#8 }).map (fun t => (t.e, t.f, t.pc)) =
      some (0x02#8, 0x00#8, 0x0002#16) := by decide

/-- Vector B11: `RES 7,A`. -/
theorem test_B11_RES_7_A :
    (after { bootExtended 0x0001#16 0xBF#8 with a := 0xFF#8, f := 0xF0#8 }).map (fun t => (t.a, t.f, t.pc)) =
      some (0x7F#8, 0xF0#8, 0x0002#16) := by decide

/-- Vector B12: `RES 0,(HL)`. -/
theorem test_B12_RES_0_HL :
    (after { poke 0xC000#16 0x01#8 (bootExtended 0x0001#16 0x86#8) with h := 0xC0#8, l := 0x00#8, f := 0x00#8 }).map
      (fun t => (t.byteAt 0xC000#16, t.f, t.pc)) =
      some (0x00#8, 0x00#8, 0x0002#16) := by decide

/-- Vector L1: `LD B,C`. -/
theorem test_L1_LD_B_C :
    (after { boot 0x0000#16 [0x41#8] with b := 0x11#8, c := 0x22#8, f := 0xF0#8 }).map (fun t => (t.b, t.c, t.f, t.pc)) =
      some (0x22#8, 0x22#8, 0xF0#8, 0x0001#16) := by decide

/-- Vector L3: `LD H,L`. -/
theorem test_L3_LD_H_L :
    (after { boot 0x0000#16 [0x65#8] with h := 0x12#8, l := 0xC3#8, f := 0x00#8 }).map (fun t => (t.pair .hl, t.f, t.pc)) =
      some (0xC3C3#16, 0x00#8, 0x0001#16) := by decide

/-- Vector L4: `LD D,n`. -/
theorem test_L4_LD_D_n :
    (after { boot 0x0000#16 [0x16#8, 0xFF#8] with d := 0x00#8, f := 0xA0#8 }).map (fun t => (t.d, t.f, t.pc)) =
      some (0xFF#8, 0xA0#8, 0x0002#16) := by decide

/-- Vector L6: `LD H,(HL)`. -/
theorem test_L6_LD_H_HL :
    (after { poke 0xC010#16 0x99#8 (boot 0x0000#16 [0x66#8]) with h := 0xC0#8, l := 0x10#8, f := 0x00#8 }).map
      (fun t => (t.pair .hl, t.f, t.pc)) =
      some (0x9910#16, 0x00#8, 0x0001#16) := by decide

/-- Vector L8: `LD (HL),L`. -/
theorem test_L8_LD_HL_L :
    (after { boot 0x0000#16 [0x75#8] with h := 0xC0#8, l := 0xAB#8, f := 0x00#8 }).map
      (fun t => (t.byteAt 0xC0AB#16, t.f, t.pc)) =
      some (0xAB#8, 0x00#8, 0x0001#16) := by decide

/-- Vector L9: `LD (HL),n`. -/
theorem test_L9_LD_HL_n :
    (after { boot 0x0000#16 [0x36#8, 0x5A#8] with h := 0xFF#8, l := 0xFF#8, f := 0x00#8 }).map
      (fun t => (t.byteAt 0xFFFF#16, t.f, t.pc)) =
      some (0x5A#8, 0x00#8, 0x0002#16) := by decide

/-- Vector L10: `LD A,(BC)`. -/
theorem test_L10_LD_A_BC :
    (after { poke 0xC020#16 0x31#8 (boot 0x0000#16 [0x0A#8]) with b := 0xC0#8, c := 0x20#8, a := 0x00#8, f := 0x00#8 }).map
      (fun t => (t.a, t.f, t.pc)) =
      some (0x31#8, 0x00#8, 0x0001#16) := by decide

/-- Vector L13: `LD (DE),A`. -/
theorem test_L13_LD_DE_A :
    (after { boot 0x0000#16 [0x12#8] with d := 0xC0#8, e := 0x22#8, a := 0xDD#8, f := 0x00#8 }).map
      (fun t => (t.byteAt 0xC022#16, t.f, t.pc)) =
      some (0xDD#8, 0x00#8, 0x0001#16) := by decide

/-- Vector L14: `LDH (n),A`. -/
theorem test_L14_LDH_n_A :
    (after { boot 0x0000#16 [0xE0#8, 0x80#8] with a := 0x77#8, f := 0xF0#8 }).map
      (fun t => (t.byteAt 0xFF80#16, t.byteAt 0x0080#16, t.f, t.pc)) =
      some (0x77#8, 0x00#8, 0xF0#8, 0x0002#16) := by decide

/-- Vector L15: `LDH A,(n)`. -/
theorem test_L15_LDH_A_n :
    (after { poke 0xFFFF#16 0x1F#8 (boot 0x0000#16 [0xF0#8, 0xFF#8]) with a := 0x00#8, f := 0x00#8 }).map
      (fun t => (t.a, t.f, t.pc)) =
      some (0x1F#8, 0x00#8, 0x0002#16) := by decide

/-- Vector L16: `LD (C),A`. -/
theorem test_L16_LD_C_A :
    (after { boot 0x0000#16 [0xE2#8] with c := 0x44#8, a := 0x9C#8, f := 0x00#8 }).map
      (fun t => (t.byteAt 0xFF44#16, t.f, t.pc)) =
      some (0x9C#8, 0x00#8, 0x0001#16) := by decide

/-- Vector L17: `LD A,(C)`. -/
theorem test_L17_LD_A_C :
    (after { poke 0xFF00#16 0xCF#8 (boot 0x0000#16 [0xF2#8]) with c := 0x00#8, a := 0x00#8, f := 0x00#8 }).map
      (fun t => (t.a, t.f, t.pc)) =
      some (0xCF#8, 0x00#8, 0x0001#16) := by decide

/-- Vector L18: `LD (nn),A`. -/
theorem test_L18_LD_nn_A :
    (after { boot 0x0000#16 [0xEA#8, 0x34#8, 0xC2#8] with a := 0xAB#8, f := 0x00#8 }).map
      (fun t => (t.byteAt 0xC234#16, t.f, t.pc)) =
      some (0xAB#8, 0x00#8, 0x0003#16) := by decide

/-- Vector L19: `LD A,(nn)`. -/
theorem test_L19_LD_A_nn :
    (after { poke 0xC234#16 0xCD#8 (boot 0x0000#16 [0xFA#8, 0x34#8, 0xC2#8]) with a := 0x00#8, f := 0x00#8 }).map
      (fun t => (t.a, t.f, t.pc)) =
      some (0xCD#8, 0x00#8, 0x0003#16) := by decide

/-- Vector L20: `LD (HL+),A`. -/
theorem test_L20_LD_HLinc_A :
    (after { boot 0x0000#16 [0x22#8] with h := 0xFF#8, l := 0xFF#8, a := 0x56#8, f := 0x00#8 }).map
      (fun t => (t.pair .hl, t.byteAt 0xFFFF#16, t.f, t.pc)) =
      some (0x0000#16, 0x56#8, 0x00#8, 0x0001#16) := by decide

/-- Vector L21: `LD A,(HL+)`. -/
theorem test_L21_LD_A_HLinc :
    (after { poke 0xC0FF#16 0x12#8 (boot 0x0000#16 [0x2A#8]) with h := 0xC0#8, l := 0xFF#8, a := 0x00#8, f := 0x00#8 }).map
      (fun t => (t.a, t.pair .hl, t.f, t.pc)) =
      some (0x12#8, 0xC100#16, 0x00#8, 0x0001#16) := by decide

/-- Vector L22: `LD (HL-),A`. -/
theorem test_L22_LD_HLdec_A :
    (after { boot 0x0000#16 [0x32#8] with h := 0x00#8, l := 0x00#8, a := 0x56#8, f := 0x00#8 }).map
      (fun t => (t.pair .hl, t.byteAt 0x0000#16, t.f, t.pc)) =
      some (0xFFFF#16, 0x56#8, 0x00#8, 0x0001#16) := by decide

/-- Vector L23: `LD A,(HL-)`. -/
theorem test_L23_LD_A_HLdec :
    (after { poke 0xC100#16 0x34#8 (boot 0x0000#16 [0x3A#8]) with h := 0xC1#8, l := 0x00#8, a := 0x00#8, f := 0x00#8 }).map
      (fun t => (t.a, t.pair .hl, t.f, t.pc)) =
      some (0x34#8, 0xC0FF#16, 0x00#8, 0x0001#16) := by decide

/-- Vector M1: `LD BC,nn`. -/
theorem test_M1_LD_BC_nn :
    (after { boot 0x0000#16 [0x01#8, 0x34#8, 0x12#8] with b := 0x00#8, c := 0x00#8, f := 0xF0#8 }).map
      (fun t => (t.pair .bc, t.b, t.c, t.f, t.pc)) =
      some (0x1234#16, 0x12#8, 0x34#8, 0xF0#8, 0x0003#16) := by decide

/-- Vector M6: `LD (nn),SP`. -/
theorem test_M6_LD_nn_SP :
    (after { boot 0x0000#16 [0x08#8, 0xFF#8, 0xFF#8] with sp := 0x1234#16, f := 0x00#8 }).map
      (fun t => (t.sp, t.byteAt 0xFFFF#16, t.byteAt 0x0000#16, t.f, t.pc)) =
      some (0x1234#16, 0x34#8, 0x12#8, 0x00#8, 0x0003#16) := by decide

/-- Vector M7: `LD SP,HL`. -/
theorem test_M7_LD_SP_HL :
    (after { boot 0x0000#16 [0xF9#8] with h := 0xD0#8, l := 0x00#8, sp := 0x0000#16, f := 0xF0#8 }).map
      (fun t => (t.sp, t.pair .hl, t.f, t.pc)) =
      some (0xD000#16, 0xD000#16, 0xF0#8, 0x0001#16) := by decide

/-- Vector M8: `LD HL,SP+e`. -/
theorem test_M8_LD_HL_SPince :
    (after { boot 0x0000#16 [0xF8#8, 0x02#8] with h := 0x00#8, l := 0x00#8, sp := 0xFFF8#16, f := 0xF0#8 }).map
      (fun t => (t.pair .hl, t.sp, t.f, t.pc)) =
      some (0xFFFA#16, 0xFFF8#16, 0x00#8, 0x0002#16) := by decide

/-- Vector M10: `LD HL,SP+e`. -/
theorem test_M10_LD_HL_SPince :
    (after { boot 0x0000#16 [0xF8#8, 0x01#8] with h := 0x00#8, l := 0x00#8, sp := 0xFFFF#16, f := 0x00#8 }).map
      (fun t => (t.pair .hl, t.sp, t.f, t.pc)) =
      some (0x0000#16, 0xFFFF#16, 0x30#8, 0x0002#16) := by decide

/-- Vector K2: `PUSH AF`. -/
theorem test_K2_PUSH_AF :
    (after { boot 0x0000#16 [0xF5#8] with a := 0x12#8, sp := 0x0001#16, f := 0xB0#8 }).map
      (fun t => (t.sp, t.byteAt 0x0000#16, t.byteAt 0xFFFF#16, t.f, t.pc)) =
      some (0xFFFF#16, 0x12#8, 0xB0#8, 0xB0#8, 0x0001#16) := by decide

/-- Vector K3: `POP DE`. -/
theorem test_K3_POP_DE :
    (after { poke 0xCFFF#16 0x12#8 (poke 0xCFFE#16 0x34#8 (boot 0x0000#16 [0xD1#8]))
      with d := 0x00#8, e := 0x00#8, sp := 0xCFFE#16, f := 0x00#8 }).map
      (fun t => (t.pair .de, t.sp, t.f, t.pc)) =
      some (0x1234#16, 0xD000#16, 0x00#8, 0x0001#16) := by decide

/-- Vector K4: `POP AF`. -/
theorem test_K4_POP_AF :
    (after { poke 0xCFFF#16 0x12#8 (poke 0xCFFE#16 0xFF#8 (boot 0x0000#16 [0xF1#8]))
      with a := 0x00#8, sp := 0xCFFE#16, f := 0x00#8 }).map
      (fun t => (t.a, t.sp, t.f, t.pc)) =
      some (0x12#8, 0xD000#16, 0xF0#8, 0x0001#16) := by decide

/-- Vector K6: `POP HL`. -/
theorem test_K6_POP_HL :
    (after { poke 0xFFFF#16 0xCD#8 (poke 0x0000#16 0xE1#8 (boot 0x0000#16 [0xE1#8]))
      with h := 0x00#8, l := 0x00#8, sp := 0xFFFF#16, f := 0x00#8 }).map
      (fun t => (t.pair .hl, t.sp, t.f, t.pc)) =
      some (0xE1CD#16, 0x0001#16, 0x00#8, 0x0001#16) := by decide

/-- Vector K7: `JP nn`. -/
theorem test_K7_JP_nn :
    (after { boot 0x0000#16 [0xC3#8, 0x00#8, 0x80#8] with f := 0xF0#8 }).map (fun t => (t.f, t.pc)) =
      some (0xF0#8, 0x8000#16) := by decide

/-- Vector K9: `JP Z,nn`. -/
theorem test_K9_JP_Z_nn :
    (after { boot 0x0000#16 [0xCA#8, 0x00#8, 0x80#8] with f := 0x70#8 }).map (fun t => (t.f, t.pc)) =
      some (0x70#8, 0x0003#16) := by decide

/-- Vector K10: `JP NZ,nn`. -/
theorem test_K10_JP_NZ_nn :
    (after { boot 0x0000#16 [0xC2#8, 0x00#8, 0x80#8] with f := 0x00#8 }).map (fun t => (t.f, t.pc)) =
      some (0x00#8, 0x8000#16) := by decide

/-- Vector K12: `JP C,nn`. -/
theorem test_K12_JP_C_nn :
    (after { boot 0x0000#16 [0xDA#8, 0x00#8, 0x80#8] with f := 0x10#8 }).map (fun t => (t.f, t.pc)) =
      some (0x10#8, 0x8000#16) := by decide

/-- Vector K14: `JP NC,nn`. -/
theorem test_K14_JP_NC_nn :
    (after { boot 0x0000#16 [0xD2#8, 0x00#8, 0x80#8] with f := 0x00#8 }).map (fun t => (t.f, t.pc)) =
      some (0x00#8, 0x8000#16) := by decide

/-- Vector K16: `JP (HL)`. -/
theorem test_K16_JP_HL :
    (after { boot 0x0000#16 [0xE9#8] with h := 0xC0#8, l := 0x00#8, f := 0x00#8 }).map (fun t => (t.pair .hl, t.f, t.pc)) =
      some (0xC000#16, 0x00#8, 0xC000#16) := by decide

/-- Vector K19: `JR e`. -/
theorem test_K19_JR_e :
    (after { boot 0x0100#16 [0x18#8, 0x80#8] with f := 0x00#8 }).map (fun t => (t.f, t.pc)) =
      some (0x00#8, 0x0082#16) := by decide

/-- Vector K22: `JR e`. -/
theorem test_K22_JR_e :
    (after { boot 0xFFF8#16 [0x18#8, 0x10#8] with f := 0x00#8 }).map (fun t => (t.f, t.pc)) =
      some (0x00#8, 0x000A#16) := by decide

/-- Vector K24: `JR NZ,e`. -/
theorem test_K24_JR_NZ_e :
    (after { boot 0x0100#16 [0x20#8, 0xFC#8] with f := 0x00#8 }).map (fun t => (t.f, t.pc)) =
      some (0x00#8, 0x00FE#16) := by decide

/-- Vector K30: `JR C,e`. -/
theorem test_K30_JR_C_e :
    (after { boot 0x0100#16 [0x38#8, 0x04#8] with f := 0x10#8 }).map (fun t => (t.f, t.pc)) =
      some (0x10#8, 0x0106#16) := by decide

/-- Vector K33: `CALL NZ,nn`. -/
theorem test_K33_CALL_NZ_nn :
    (after { boot 0x0150#16 [0xC4#8, 0x00#8, 0x80#8] with sp := 0xD000#16, f := 0x00#8 }).map
      (fun t => (t.sp, t.byteAt 0xCFFF#16, t.byteAt 0xCFFE#16, t.f, t.pc)) =
      some (0xCFFE#16, 0x01#8, 0x53#8, 0x00#8, 0x8000#16) := by decide

/-- Vector K36: `CALL Z,nn`. -/
theorem test_K36_CALL_Z_nn :
    (after { boot 0x0150#16 [0xCC#8, 0x00#8, 0x80#8] with sp := 0xD000#16, f := 0x00#8 }).map
      (fun t => (t.sp, t.byteAt 0xCFFF#16, t.byteAt 0xCFFE#16, t.f, t.pc)) =
      some (0xD000#16, 0x00#8, 0x00#8, 0x00#8, 0x0153#16) := by decide

/-- Vector K41: `CALL nn`. -/
theorem test_K41_CALL_nn :
    (after { boot 0xFFFE#16 [0xCD#8, 0x00#8, 0x80#8] with sp := 0xD000#16, f := 0x00#8 }).map
      (fun t => (t.sp, t.byteAt 0xCFFF#16, t.byteAt 0xCFFE#16, t.f, t.pc)) =
      some (0xCFFE#16, 0x00#8, 0x01#8, 0x00#8, 0x8000#16) := by decide

/-- Vector K42: `RET`. -/
theorem test_K42_RET :
    (after { poke 0xCFFF#16 0x01#8 (poke 0xCFFE#16 0x53#8 (boot 0x8000#16 [0xC9#8]))
      with sp := 0xCFFE#16, f := 0xF0#8 }).map
      (fun t => (t.sp, t.f, t.pc)) =
      some (0xD000#16, 0xF0#8, 0x0153#16) := by decide

/-- Vector K44: `RET NZ`. -/
theorem test_K44_RET_NZ :
    (after { poke 0xCFFF#16 0x01#8 (poke 0xCFFE#16 0x53#8 (boot 0x8000#16 [0xC0#8]))
      with sp := 0xCFFE#16, f := 0x80#8 }).map
      (fun t => (t.sp, t.f, t.pc)) =
      some (0xCFFE#16, 0x80#8, 0x8001#16) := by decide

/-- Vector K49: `RET C`. -/
theorem test_K49_RET_C :
    (after { poke 0xCFFF#16 0x01#8 (poke 0xCFFE#16 0x53#8 (boot 0x8000#16 [0xD8#8]))
      with sp := 0xCFFE#16, f := 0x10#8 }).map
      (fun t => (t.sp, t.f, t.pc)) =
      some (0xD000#16, 0x10#8, 0x0153#16) := by decide

/-- Vector K51: `RETI`. -/
theorem test_K51_RETI :
    (after { poke 0xCFFF#16 0x01#8 (poke 0xCFFE#16 0x53#8 (boot 0x0040#16 [0xD9#8]))
      with sp := 0xCFFE#16, f := 0x50#8, ime := false }).map
      (fun t => (t.sp, t.ime, t.f, t.pc)) =
      some (0xD000#16, true, 0x50#8, 0x0153#16) := by decide

/-- Vector K53: `RST 0x00`. -/
theorem test_K53_RST_0x00 :
    (after { boot 0x0200#16 [0xC7#8] with sp := 0xD000#16, f := 0x00#8 }).map
      (fun t => (t.sp, t.byteAt 0xCFFF#16, t.byteAt 0xCFFE#16, t.f, t.pc)) =
      some (0xCFFE#16, 0x02#8, 0x01#8, 0x00#8, 0x0000#16) := by decide

/-- Vector K60: `RST 0x38`. -/
theorem test_K60_RST_0x38 :
    (after { boot 0x0200#16 [0xFF#8] with sp := 0xD000#16, f := 0xF0#8 }).map
      (fun t => (t.sp, t.byteAt 0xCFFF#16, t.byteAt 0xCFFE#16, t.f, t.pc)) =
      some (0xCFFE#16, 0x02#8, 0x01#8, 0xF0#8, 0x0038#16) := by decide

/-- Vector G1: `DI`. -/
theorem test_G1_DI :
    (after { boot 0x0000#16 [0xF3#8] with f := 0xF0#8, ime := true }).map (fun t => (t.ime, t.f, t.pc)) =
      some (false, 0xF0#8, 0x0001#16) := by decide

/-- Vector G3: `EI`. -/
theorem test_G3_EI :
    (after { boot 0x0000#16 [0xFB#8] with f := 0xF0#8, ime := false }).map (fun t => (t.ime, t.f, t.pc)) =
      some (true, 0xF0#8, 0x0001#16) := by decide

/-- Vector G5: `NOP`. -/
theorem test_G5_NOP :
    (after { boot 0x0000#16 [0x00#8] with a := 0x12#8, f := 0xF0#8 }).map (fun t => (t.a, t.f, t.pc)) =
      some (0x12#8, 0xF0#8, 0x0001#16) := by decide

/-- Vector G6: `HALT`. -/
theorem test_G6_HALT :
    (after { boot 0x0000#16 [0x76#8] with f := 0x50#8, ime := false }).map (fun t => (t.run, t.ime, t.f, t.pc)) =
      some (RunState.halted, false, 0x50#8, 0x0001#16) := by decide

/-- Vector G9: `STOP`. -/
theorem test_G9_STOP :
    (after { boot 0x0000#16 [0x10#8, 0x3C#8] with a := 0x01#8, f := 0x00#8 }).map (fun t => (t.a, t.run, t.f, t.pc)) =
      some (0x01#8, RunState.stopped, 0x00#8, 0x0002#16) := by decide

/-- Vector G10: `PREFIX CB`. -/
theorem test_G10_PREFIX_CB :
    (after { boot 0x0000#16 [0xCB#8, 0x37#8] with a := 0xF1#8, f := 0x00#8 }).map (fun t => (t.a, t.mode, t.f, t.pc)) =
      some (0xF1#8, DecodeMode.extended, 0x00#8, 0x0001#16) := by decide

/-- Vector O5: `ADD A,(HL)`. -/
theorem test_O5_ADD_A_HL :
    (after { poke 0xC000#16 0x02#8 (boot 0x0100#16 [0x86#8]) with a := 0x01#8, h := 0xC0#8, l := 0x00#8, f := 0x00#8 }).map
      (fun t => t.bus) =
      some [.read 0x0100#16 0x86#8, .read 0xC000#16 0x02#8] := by decide

/-- Vector O6: `INC (HL)`. -/
theorem test_O6_INC_HL :
    (after { poke 0xC000#16 0x4F#8 (boot 0x0100#16 [0x34#8]) with h := 0xC0#8, l := 0x00#8, f := 0x00#8 }).map
      (fun t => t.bus) =
      some [.read 0x0100#16 0x34#8, .read 0xC000#16 0x4F#8, .write 0xC000#16 0x50#8] := by decide

/-- Vector O12: `LD (nn),SP`. -/
theorem test_O12_LD_nn_SP :
    (after { boot 0x0100#16 [0x08#8, 0x00#8, 0xC1#8] with sp := 0xFFF8#16, f := 0x00#8 }).map (fun t => t.bus) =
      some [.read 0x0100#16 0x08#8, .read 0x0101#16 0x00#8, .read 0x0102#16 0xC1#8, .write 0xC100#16 0xF8#8, .write 0xC101#16 0xFF#8] := by decide

/-- Vector O13: `PUSH BC`. -/
theorem test_O13_PUSH_BC :
    (after { boot 0x0100#16 [0xC5#8] with b := 0x12#8, c := 0x34#8, sp := 0xD000#16, f := 0x00#8 }).map (fun t => t.bus) =
      some [.read 0x0100#16 0xC5#8, .write 0xCFFF#16 0x12#8, .write 0xCFFE#16 0x34#8] := by decide

/-- Vector O14: `POP DE`. -/
theorem test_O14_POP_DE :
    (after { poke 0xCFFF#16 0x12#8 (poke 0xCFFE#16 0x34#8 (boot 0x0100#16 [0xD1#8]))
      with sp := 0xCFFE#16, f := 0x00#8 }).map
      (fun t => t.bus) =
      some [.read 0x0100#16 0xD1#8, .read 0xCFFE#16 0x34#8, .read 0xCFFF#16 0x12#8] := by decide

/-- Vector O15: `CALL nn`. -/
theorem test_O15_CALL_nn :
    (after { boot 0x0100#16 [0xCD#8, 0x00#8, 0x80#8] with sp := 0xD000#16, f := 0x00#8 }).map (fun t => t.bus) =
      some [.read 0x0100#16 0xCD#8, .read 0x0101#16 0x00#8, .read 0x0102#16 0x80#8, .write 0xCFFF#16 0x01#8, .write 0xCFFE#16 0x03#8] := by decide

/-- Vector O18: `RET Z`. -/
theorem test_O18_RET_Z :
    (after { poke 0xCFFF#16 0x01#8 (poke 0xCFFE#16 0x53#8 (boot 0x0100#16 [0xC8#8]))
      with sp := 0xCFFE#16, f := 0x00#8 }).map
      (fun t => t.bus) =
      some [.read 0x0100#16 0xC8#8] := by decide

/-- Vector O24: `RLC (HL)`. -/
theorem test_O24_RLC_HL :
    (after { poke 0xC000#16 0x85#8 (bootExtended 0x0101#16 0x06#8) with h := 0xC0#8, l := 0x00#8, f := 0x00#8 }).map
      (fun t => t.bus) =
      some [.read 0x0101#16 0x06#8, .read 0xC000#16 0x85#8, .write 0xC000#16 0x0B#8] := by decide

/-- Vector G7: a halted core answers `Idle` and changes nothing. -/
theorem test_G7_idle :
    step { boot 0x0001#16 [0x3C#8] with run := .halted } = .next { boot 0x0001#16 [0x3C#8] with run := .halted } ∧
    State.stepReturn { boot 0x0001#16 [0x3C#8] with run := .halted } = .idle := ⟨rfl, rfl⟩

/-- Vectors F1 to F11: under `Abort` an unmapped byte is the decode error, `pc` one past it and no operand byte fetched. -/
theorem test_F1_to_F11_decode_error :
    (unmappedBytes.map fun op => match step (boot 0x0100#16 [op, 0x12#8, 0x34#8]) with
      | .fault (.unimplementedOpcode e t) => some (e, t.pc, t.bus)
      | _ => none) =
    unmappedBytes.map fun op => some ({ byte := op, mode := .primary }, 0x0101#16, [.read 0x0100#16 op]) := by decide

/-- R341: under `Skip` the same byte is a one-byte no-op. -/
theorem test_skip_is_a_no_op :
    (after { boot 0x0100#16 [0xD3#8, 0x12#8] with params := { Params.standard with unimplPolicy := .skip } }).map
      (fun t => (t.pc, t.run, t.mode)) = some (0x0101#16, .running, .primary) := by decide

/-- R72: a store is seen by the fetch after it. The store of vector L22 overwrites the opcode byte at 0x0000. -/
theorem test_store_is_fetched :
    ((after { boot 0x0000#16 [0x77#8] with a := 0x2F#8, h := 0x00#8, l := 0x01#8 }).map fun t =>
      t.fetchInstr.1) = some .cpl := by decide

/-! ## Memory -/

/-- Writing what an unlisted address reads as removes the entry, so equal memories are equal lists. -/
theorem test_memory_canonical :
    Memory.write (Memory.write (Memory.write [] 5 7#8) 3 9#8) 5 0#8 = [(3, 9#8)] := by decide

/-! ## The host's two functions -/

/-- Log entry 13: `LD BC,nn` with its operand in bits 23..8; the two-byte form 0xCB 0x7C as 16 bits, first byte lowest. -/
theorem test_decodeTableWord :
    decodeTableWord 24 0x123401 = some (.ld_BC_nn 0x1234#16) ∧ decodeTableWord 16 0x7CCB = some .bit_7_H ∧
    decodeTableWord 8 0xCB = some .prefix_CB ∧ decodeTableWord 8 0xC3 = some (.jp_nn 0x0000#16) := by decide

theorem test_withFetchWord :
    ((after (State.reset.withFetchWord 24 0x123401)).map fun t => (t.pair .bc, t.pc)) = some (0x1234#16, 0x0003#16) ∧
    ((after (State.reset.withFetchWord 16 0xC7CB)).map fun t => (t.a, t.pc, t.mode)) = some (0x01#8, 0x0002#16, .primary) ∧
    ((after (State.reset.withFetchWord 8 0xCB)).map fun t => (t.pc, t.mode)) = some (0x0001#16, .extended) := by decide

/-! ## Witnesses: the hypotheses of the obligations can be met

The obligations with no entry here have no hypothesis: they hold of every state and operand. -/

/-- Memory in canonical form, the hypothesis inside `Stores`: with nothing listed, and with both ends of memory listed. -/
theorem witness_Stores : State.reset.mem.wf ∧ (boot 0xFFFF#16 [0x12#8, 0x34#8]).mem.wf := by decide

/-- `ADMIT_GK` is true after reset: DaaAdjustsAsThePseudocodeSays (for both values of N), CplScfCcfAssignTheirFlags,
IncDecPairKeepFlags, StackPointerPlusSignedOffset, GateNopHaltStopPrefix. -/
theorem witness_admitGK :
    State.reset.params.admitGK = true ∧ nf { State.reset with f := 0x40#8 } = true ∧ nf State.reset = false := by decide

/-- The largest and the smallest decimal operands. -/
theorem witness_DaaGivesDecimalArithmetic :
    99 < 100 ∧ State.reset.params.admitGK = true ∧
    ({ State.reset with a := 0x99#8 } : State).a = BitVec.ofNat 8 (99 / 10 * 16 + 99 % 10) ∧
    State.reset.a = BitVec.ofNat 8 (0 / 10 * 16 + 0 % 10) := by decide

/-- Each condition holds in one state and fails in another: JumpsAssignPc, RelativeJumpsAddSignedOffset,
ConditionalsTestOneFlag, CallsPushTheReturnAddress, ReturnsPopPc. -/
theorem witness_conditions :
    ∀ cc, condTrue cc State.reset = !condTrue cc { State.reset with f := 0x90#8 } := by
  intro cc; cases cc <;> decide

/-- Plain RAM in canonical form, with the stack at both ends of memory. -/
theorem witness_ReturnsPopPc :
    State.reset.params.memory = .ram ∧ State.reset.mem.wf ∧ ({ State.reset with sp := 0x0001#16 } : State).mem.wf := by
  decide

/-- The same, with F[3:0] zero in a state where every flag is set. -/
theorem witness_StackRoundTrips :
    State.reset.params.memory = .ram ∧ State.reset.mem.wf ∧ State.reset.f &&& 0x0F#8 = 0#8 ∧
    ({ State.reset with f := 0xF0#8 } : State).f &&& 0x0F#8 = 0#8 := by decide

theorem witness_HaltAndStopWaitForResume :
    State.reset.params.admitGK = true ∧ State.reset.run = .running ∧
    (Instr.halt = .halt ∨ ∃ n, Instr.halt = .stop n) ∧ (Instr.stop 0x3C#8 = .halt ∨ ∃ n, Instr.stop 0x3C#8 = .stop n) :=
  ⟨rfl, rfl, .inl rfl, .inr ⟨_, rfl⟩⟩

/-- A core whose run excludes the instructions the source never names. -/
def withoutGK : State := { State.reset with params := { Params.standard with admitGK := false } }

theorem witness_WithoutGeneralKnowledgeTheSixteenAreRefused :
    withoutGK.params.admitGK = false ∧ ("STOP" = "STOP" ∧ ∃ n, Instr.stop 0xFF#8 = .stop n) ∧
    ("ADD_SP_e" = "ADD_SP_e" ∧ ∃ e, Instr.add_SP_e 0x80#8 = .add_SP_e e) ∧
    (Instr.nop, "NOP") ∈ generalKnowledgeInstrs ∧ (Instr.dec_SP, "DEC_SP") ∈ generalKnowledgeInstrs :=
  ⟨rfl, ⟨rfl, _, rfl⟩, ⟨rfl, _, rfl⟩, by decide, by decide⟩

/-- A running core with an unmapped byte at `pc`, under each policy. -/
def unmappedUnder (policy : UnimplPolicy) (op : Byte) : State :=
  { boot 0xFFFF#16 [op] with params := { Params.standard with unimplPolicy := policy } }

theorem witness_UnmappedBytesRaiseTheDecodeError :
    ∀ policy, (unmappedUnder policy 0xD3#8).run = .running ∧ (unmappedUnder policy 0xD3#8).mode = .primary ∧
      nextOp (unmappedUnder policy 0xD3#8) = 0xD3#8 ∧ 0xD3#8 ∈ unmappedBytes ∧
      nextOp (unmappedUnder policy 0xFD#8) = 0xFD#8 ∧ 0xFD#8 ∈ unmappedBytes ∧
      (unmappedUnder policy 0xD3#8).params.unimplPolicy = policy := by
  intro policy; cases policy <;> decide

theorem witness_UnmappedIsANoOpUnderSkip :
    0xD3#8 ∈ unmappedBytes ∧ (unmappedUnder .skip 0xD3#8).params.unimplPolicy = .skip ∧
    (unmappedUnder .abort 0xD3#8).params.unimplPolicy = .abort ∧
    (unmappedUnder .report 0xD3#8).params.unimplPolicy = .report := by decide

/-- Both clauses: a halted core; a running one with a three-byte instruction across the top of memory. -/
theorem witness_StepRunsTheDecodedInstruction :
    ({ State.reset with run := .halted } : State).run ≠ .running ∧
    (boot 0xFFFE#16 [0xCD#8, 0x34#8, 0x12#8]).run = .running ∧
    decode (boot 0xFFFE#16 [0xCD#8, 0x34#8, 0x12#8]).mode
      [(boot 0xFFFE#16 [0xCD#8, 0x34#8, 0x12#8]).upcoming 0 0xFFFE#16,
        (boot 0xFFFE#16 [0xCD#8, 0x34#8, 0x12#8]).upcoming 1 0xFFFF#16,
        (boot 0xFFFE#16 [0xCD#8, 0x34#8, 0x12#8]).upcoming 2 0x0000#16] = .ok (.call_nn 0x1234#16, []) := by decide

theorem witness_StepRunsTheInstructionInMemory :
    (boot 0xFFFE#16 [0x01#8, 0x34#8, 0x12#8]).run = .running ∧
    (boot 0xFFFE#16 [0x01#8, 0x34#8, 0x12#8]).params.memory = .ram ∧ (Instr.ld_BC_nn 0x1234#16).wellFormed = true ∧
    (boot 0xFFFE#16 [0x01#8, 0x34#8, 0x12#8]).mode = (Instr.ld_BC_nn 0x1234#16).table ∧
    ∀ k (h : k < (Instr.ld_BC_nn 0x1234#16).stepBytes.length),
      (boot 0xFFFE#16 [0x01#8, 0x34#8, 0x12#8]).byteAt (0xFFFE#16 + BitVec.ofNat 16 k) =
        (Instr.ld_BC_nn 0x1234#16).stepBytes[k] :=
  ⟨rfl, rfl, rfl, rfl, by decide⟩

/-- The same hypotheses for an instruction of the extended table. -/
theorem witness_StepRunsTheInstructionInMemory_extended :
    (bootExtended 0x0000#16 0x7C#8).run = .running ∧ (bootExtended 0x0000#16 0x7C#8).params.memory = .ram ∧
    Instr.bit_7_H.wellFormed = true ∧ (bootExtended 0x0000#16 0x7C#8).mode = Instr.bit_7_H.table ∧
    ∀ k (h : k < Instr.bit_7_H.stepBytes.length),
      (bootExtended 0x0000#16 0x7C#8).byteAt (0x0000#16 + BitVec.ofNat 16 k) = Instr.bit_7_H.stepBytes[k] :=
  ⟨rfl, rfl, rfl, rfl, by decide⟩

theorem witness_PrefixedInstructionTakesTwoSteps :
    (boot 0xFFFF#16 [0xCB#8, 0x7C#8]).run = .running ∧ (boot 0xFFFF#16 [0xCB#8, 0x7C#8]).mode = .primary ∧
    nextOp (boot 0xFFFF#16 [0xCB#8, 0x7C#8]) = 0xCB#8 := by decide

/-- Both sides of the equivalence occur: a step that answers a next state, and each of the two stops. -/
theorem witness_OnlyTheDecodeErrorStopsAStep :
    (after State.reset).isSome = true ∧ (after (unmappedUnder .abort 0xD3#8)).isSome = false ∧
    (after (unmappedUnder .skip 0xD3#8)).isSome = true ∧ (after withoutGK).isSome = false := by decide

/-- Each of the three answers occurs. -/
theorem witness_StepReturnsOkErrOrIdle :
    State.reset.stepReturn = .ok ∧ (unmappedUnder .abort 0xD3#8).stepReturn = .err { byte := 0xD3#8, mode := .primary } ∧
    ({ State.reset with run := .stopped } : State).stepReturn = .idle := by decide

/-- The hypothesis `step s = .next t` of the statements about every step, in plain RAM with the invariant, by an instruction
that neither transfers control nor touches `sp`: EveryStepObeysTheFlagTable, PcAdvancesByTheLength, ControlFieldWriters,
MemoryIsTheReplayOfTheCalls, StepKeepsInv. -/
theorem witness_step :
    (∃ t, step (boot 0xFFFF#16 [0x3E#8, 0x05#8]) = .next t) ∧ (boot 0xFFFF#16 [0x3E#8, 0x05#8]).run = .running ∧
    (boot 0xFFFF#16 [0x3E#8, 0x05#8]).params.memory = .ram ∧ assignsPc .primary 0x3E#8 = false ∧
    nextOp (boot 0xFFFF#16 [0x3E#8, 0x05#8]) = 0x3E#8 ∧ (boot 0xFFFF#16 [0x3E#8, 0x05#8]).Inv :=
  ⟨⟨_, rfl⟩, rfl, rfl, rfl, rfl, by unfold State.Inv; decide⟩

/-- The same hypothesis where the core is not running (the other clause of EveryStepObeysTheFlagTable and
ControlFieldWriters), and where it is in Extended mode. -/
theorem witness_step_clauses :
    (∃ t, step { State.reset with run := .halted } = .next t) ∧ (∃ t, step (bootExtended 0x0000#16 0xC6#8) = .next t) :=
  ⟨⟨_, rfl⟩, ⟨_, rfl⟩⟩

/-- A step that changes `sp`. -/
theorem witness_OnlyStackInstructionsChangeSp :
    ((after (boot 0x0000#16 [0x33#8])).map fun t => decide (t.sp ≠ (boot 0x0000#16 [0x33#8]).sp)) = some true := by decide

/-- Every arm of NoStepReadsIme occurs: a next state, each fault, a refusal. -/
theorem witness_NoStepReadsIme :
    (after State.reset).isSome = true ∧
    (match step (unmappedUnder .abort 0xD3#8) with | .fault (.unimplementedOpcode _ _) => true | _ => false) = true ∧
    (match step (unmappedUnder .report 0xD3#8) with | .fault (.unimplementedOpcodeReported _ _ _) => true | _ => false) = true ∧
    (match step withoutGK with | .refused _ => true | _ => false) = true := by decide

/-- The platform's entry with the gate open in Primary mode; it is closed to it in Extended mode. -/
theorem witness_CallerOperations :
    (State.reset.interruptEntry 0x0040#16).isSome = true ∧
    (State.interruptEntry { State.reset with mode := .extended } 0x0040#16).isSome = false := by decide

theorem witness_PairsAreViews : StackPair.bc ≠ .af ∧ StackPair.hl ≠ .af := by decide

theorem witness_DecodeOfEncode :
    (Instr.call_nn 0xFFFF#16).wellFormed = true ∧ Instr.call_nn 0xFFFF#16 ≠ .prefix_CB ∧
    (Instr.unmapped 0xFD#8).wellFormed = true ∧ Instr.unmapped 0xFD#8 ≠ .prefix_CB ∧
    Instr.bit_7_H.wellFormed = true ∧ Instr.prefix_CB.wellFormed = true := by decide

theorem witness_DecodeReadsExactlyTheEncodings :
    decode .primary [0xCD#8, 0x34#8, 0x12#8, 0x00#8] = .ok (.call_nn 0x1234#16, [0x00#8]) ∧
    decode .extended [0x7C#8] = .ok (.bit_7_H, []) := by decide

end Sys2Proof.Tests
end

section
/-! PROOFS. The decoder and the fetch stage: which code a decoded instruction has, and the state a fetch leaves. -/

open Sys2Proof Sys2Proof.Machine Sys2Proof.Claim
namespace Sys2Proof

/-! ## The decoder: an instruction's code is the mode and the byte it was decoded from -/

/-- The codes of a map of sixteen rows of sixteen: the byte of row `x` and column `y` is `16 * x + y`. -/
def codeMap (m : DecodeMode) : List (List (DecodeMode × Byte)) :=
  (List.range 16).map fun x => (List.range 16).map fun y => (m, BitVec.ofNat 8 (16 * x + y))

theorem primaryMap_codes (lo hi : Byte) : (primaryMap lo hi).map (List.map Instr.code) = codeMap .primary := rfl

theorem extendedMap_codes : extendedMap.map (List.map Instr.code) = codeMap .extended := rfl

theorem primaryMap_wellFormed (lo hi : Byte) : (primaryMap lo hi).all (List.all · Instr.wellFormed) = true := rfl

theorem extendedMap_wellFormed : extendedMap.all (List.all · Instr.wellFormed) = true := rfl

/-- A map with these codes has an entry at every byte: one of its instructions, whose code is that byte's. -/
theorem mapEntry_of_codes {rows : List (List Instr)} {m : DecodeMode}
    (h : rows.map (List.map Instr.code) = codeMap m) (op : Byte) :
    (∃ row ∈ rows, mapEntry rows op ∈ row) ∧ (mapEntry rows op).code = (m, op) := by
  have hx : op.toNat / 16 < 16 := by have := op.isLt; omega
  have hy : op.toNat % 16 < 16 := Nat.mod_lt _ (by decide)
  have hrow := congrArg (·[op.toNat / 16]?) h
  simp only [codeMap, List.getElem?_map, List.getElem?_range hx, Option.map_some, Option.map_eq_some_iff] at hrow
  obtain ⟨row, hrow, hcodes⟩ := hrow
  have hent := congrArg (·[op.toNat % 16]?) hcodes
  simp only [List.getElem?_map, List.getElem?_range hy, Option.map_some, Option.map_eq_some_iff] at hent
  obtain ⟨i, hi, hcode⟩ := hent
  have he : mapEntry rows op = i := by simp [mapEntry, hrow, hi]
  rw [he]
  refine ⟨⟨row, List.mem_of_getElem? hrow, List.mem_of_getElem? hi⟩, ?_⟩
  rw [hcode, Nat.div_add_mod, BitVec.ofNat_toNat, BitVec.setWidth_eq]

@[simp] theorem decodeOp_code (m : DecodeMode) (op lo hi : Byte) : (decodeOp m op lo hi).code = (m, op) := by
  cases m with
  | primary => exact (mapEntry_of_codes (primaryMap_codes lo hi) op).2
  | extended => exact (mapEntry_of_codes extendedMap_codes op).2

theorem mapEntry_wellFormed {rows : List (List Instr)} {m : DecodeMode}
    (h : rows.map (List.map Instr.code) = codeMap m) (hwf : rows.all (List.all · Instr.wellFormed) = true) (op : Byte) :
    (mapEntry rows op).wellFormed = true := by
  obtain ⟨⟨row, hrow, hent⟩, -⟩ := mapEntry_of_codes h op
  exact List.all_eq_true.1 (List.all_eq_true.1 hwf row hrow) _ hent

theorem decodeOp_wellFormed (m : DecodeMode) (op lo hi : Byte) : (decodeOp m op lo hi).wellFormed = true := by
  cases m with
  | primary => exact mapEntry_wellFormed (primaryMap_codes lo hi) (primaryMap_wellFormed lo hi) op
  | extended => exact mapEntry_wellFormed extendedMap_codes extendedMap_wellFormed op

namespace Machine

/-! ## The fetch stage -/

/-- The instruction the fetch stage reads: the byte at `pc`, in the mode the step began in, with the operand bytes its number
of them takes from the addresses after it. -/
theorem State.fetchInstr_instr (s : State) :
    s.fetchInstr.1 = decodeOp s.mode (s.upcoming 0 s.pc)
      (if operandCount s.mode (s.upcoming 0 s.pc) = 0 then 0#8 else s.upcoming 1 (s.pc + 1#16))
      (if operandCount s.mode (s.upcoming 0 s.pc) = 2 then s.upcoming 2 (s.pc + 2#16) else 0#8) := by
  obtain ⟨h, e⟩ | ⟨h, e⟩ | ⟨h, e⟩ := s.fetchInstr_cases <;> rw [e, h] <;> rfl

theorem State.fetchInstr_code (s : State) : s.fetchInstr.1.code = (s.mode, s.upcoming 0 s.pc) := by
  rw [State.fetchInstr_instr, decodeOp_code]

theorem State.fetchInstr_wellFormed (s : State) : s.fetchInstr.1.wellFormed = true := by
  rw [State.fetchInstr_instr]
  exact decodeOp_wellFormed ..

/-- A fetch stage of no byte. -/
theorem fetched_zero (s : State) : fetched s 0 = s.beginStep.setMode .primary := by
  cases h : s.params.memory <;> simp [fetched, fetchReads, State.beginStep, State.setMode, h]

/-- A fetch stage makes as many reads as bytes, so the next byte is the one a read of that number would return. -/
theorem fetched_upcoming_zero (s : State) (n : Nat) (x : Word) : (fetched s n).upcoming 0 x = s.upcoming n x := by
  cases h : s.params.memory <;> simp [State.upcoming, State.byteAt, fetched, h]

/-- One more byte of a fetch stage is one more `fetch8` (R106, R107). -/
theorem fetched_succ (s : State) (n : Nat) : fetched s (n + 1) = (fetched s n).fetch8.2 := by
  have hbus : fetchReads s (n + 1) =
      (fetched s n).bus ++ [.read (fetched s n).pc ((fetched s n).upcoming 0 (fetched s n).pc)] := by
    rw [fetched_upcoming_zero]
    simp [fetchReads, fetched, List.range_succ]
  have hpc : s.pc + BitVec.ofNat 16 (n + 1) = (fetched s n).pc + 1#16 := by
    show _ = s.pc + BitVec.ofNat 16 n + 1#16
    rw [BitVec.ofNat_add, BitVec.add_assoc]
  rw [State.fetch8_state]
  conv_lhs => unfold fetched
  rw [hbus, hpc]
  cases h : s.params.memory <;> simp [fetched, State.afterRead, State.jump, h, Nat.add_assoc]

/-- The fetch stage of a step leaves the state `fetched`: every call and field of it. -/
theorem State.fetchInstr_eq_fetched (s : State) :
    s.beginStep.fetchInstr.2 = fetched s (1 + operandCount s.mode (nextOp s)) := by
  obtain ⟨h, e⟩ | ⟨h, e⟩ | ⟨h, e⟩ := s.beginStep.fetchInstr_cases <;>
    (simp only [State.beginStep_mode, State.beginStep_upcoming, State.beginStep_pc] at h
     rw [e, nextOp, h]
     simp only [fetched_succ, fetched_zero]
     rfl)

/-- A step of a running core is the decoded instruction in the state after the fetch stage (R107). -/
theorem step_eq_exec_fetched {s : State} (h : s.run = .running) :
    step s = exec s.beginStep.fetchInstr.1 (fetched s (1 + operandCount s.mode (nextOp s))) := by
  rw [step_running s h, State.fetchInstr_eq_fetched]

end Machine
end Sys2Proof
end

section
/-! PROOFS. What an instruction can do to F, `pc`, `sp`, the control fields and the form of memory, said once for all of them
(`exec_effect`), from one lemma per operation and the entries of the tables of R26, R27 and R28 per family. -/

open Sys2Proof Sys2Proof.Machine Sys2Proof.Claim
namespace Sys2Proof.Machine

/-! ## What an operation leaves alone besides F and the byte registers -/

/-- From `s` to `t` the control fields and the parameters are kept, memory stays canonical, and `pc` and `sp` are kept unless
the argument of that name is true. -/
structure Frame (pc sp : Bool) (s t : State) : Prop where
  pc_kept : pc = false → t.pc = s.pc
  sp_kept : sp = false → t.sp = s.sp
  mode_kept : t.mode = s.mode
  ime_kept : t.ime = s.ime
  run_kept : t.run = s.run
  params_kept : t.params = s.params
  mem_wf : s.mem.wf → t.mem.wf

namespace Frame

variable {pc sp : Bool} {s t u : State}

theorem refl (s : State) : Frame pc sp s s := by constructor <;> simp

theorem trans (h : Frame pc sp s t) (h' : Frame pc sp t u) : Frame pc sp s u where
  pc_kept hp := (h'.pc_kept hp).trans (h.pc_kept hp)
  sp_kept hp := (h'.sp_kept hp).trans (h.sp_kept hp)
  mode_kept := h'.mode_kept.trans h.mode_kept
  ime_kept := h'.ime_kept.trans h.ime_kept
  run_kept := h'.run_kept.trans h.run_kept
  params_kept := h'.params_kept.trans h.params_kept
  mem_wf hm := h'.mem_wf (h.mem_wf hm)

theorem setReg (h : Frame pc sp s t) (r : Reg8) (v : Byte) : Frame pc sp s (t.setReg r v) :=
  h.trans (by constructor <;> simp)

theorem setFlags (h : Frame pc sp s t) (x : Flags) : Frame pc sp s (t.setFlags x) :=
  h.trans (by constructor <;> simp)

theorem afterRead (h : Frame pc sp s t) (a : Word) : Frame pc sp s (t.afterRead a) :=
  h.trans (by constructor <;> simp)

theorem memWrite (h : Frame pc sp s t) (a : Word) (v : Byte) : Frame pc sp s (t.memWrite a v) :=
  h.trans { (refl t : Frame pc sp t t) with mem_wf := fun hm => t.memWrite_wf hm a v }

theorem setPair (h : Frame pc sp s t) {p : Pair} (hp : p = .sp → sp = true) (w : Word) :
    Frame pc sp s (t.setPair p w) :=
  h.trans (by constructor <;> simp; rintro rfl rfl; exact absurd (hp rfl) (by decide))

theorem setHL (h : Frame pc sp s t) (w : Word) : Frame pc sp s (t.setPair .hl w) :=
  h.setPair (p := .hl) nofun w

theorem setSP (h : Frame pc true s t) (w : Word) : Frame pc true s (t.setPair .sp w) :=
  h.setPair (p := .sp) (fun _ => rfl) w

theorem setStackPair (h : Frame pc sp s t) (q : StackPair) (w : Word) : Frame pc sp s (t.setStackPair q w) :=
  h.trans (by constructor <;> simp)

theorem jump (h : Frame true sp s t) (w : Word) : Frame true sp s (t.jump w) :=
  h.trans (by constructor <;> simp)

theorem push16 (h : Frame pc true s t) (w : Word) : Frame pc true s (t.push16 w) :=
  h.trans { pc_kept := by simp, sp_kept := by simp, mode_kept := by simp, ime_kept := by simp, run_kept := by simp
            params_kept := by simp, mem_wf := t.push16_wf w }

theorem pop16 (h : Frame pc true s t) : Frame pc true s t.pop16.2 := by
  rw [State.pop16_state]
  exact ((h.afterRead _).afterRead _).setSP _

theorem readLoc (s : State) (x : Loc8) : Frame pc sp s (s.readLoc x).2 := by
  cases x with
  | reg r => exact refl s
  | atHL => exact (refl s).afterRead _

theorem readSrc (s : State) (x : Src8) : Frame pc sp s (s.readSrc x).2 := by
  cases x with
  | loc y => exact readLoc s y
  | imm n => exact refl s

theorem writeLoc (h : Frame pc sp s t) (x : Loc8) (v : Byte) : Frame pc sp s (t.writeLoc x v) := by
  cases x with
  | reg r => exact h.setReg r v
  | atHL => exact h.memWrite _ v

theorem whenHolds (h : Frame pc sp s t) (cc : Cond) : Frame pc sp s (s.whenHolds cc t) := by
  unfold State.whenHolds
  split
  · exact h
  · exact refl s

end Frame

/-! ## What an operation does to F -/

/-- A row of R26's table: the entries of Z, N, H, C. -/
abbrev FlagRow := FlagEffect × FlagEffect × FlagEffect × FlagEffect

/-- A row of R26's table, for the flags before and after. -/
def FlagsObey (row : FlagRow) (old new : Flags) : Prop :=
  Obeys row.1 old.z new.z ∧ Obeys row.2.1 old.n new.n ∧ Obeys row.2.2.1 old.h new.h ∧ Obeys row.2.2.2 old.c new.c

/-- F changes as a row of R26's table says, and F[3:0] stays zero (R23). -/
def FFollows (row : FlagRow) (s t : State) : Prop :=
  FlagsObey row s.flags t.flags ∧ (s.f &&& 0x0F#8 = 0#8 → t.f &&& 0x0F#8 = 0#8)

/-- The row of an instruction that writes no flag. -/
abbrev keepsAll : FlagRow := (.kept, .kept, .kept, .kept)

theorem FFollows.of_f_eq {s t : State} (h : t.f = s.f) : FFollows keepsAll s t := by
  have hflags : t.flags = s.flags := congrArg Flags.ofByte h
  exact ⟨⟨congrArg _ hflags, congrArg _ hflags, congrArg _ hflags, congrArg _ hflags⟩, fun hs => h ▸ hs⟩

theorem FFollows.setFlags {row : FlagRow} {s : State} {x : Flags}
    (h : FlagsObey row s.flags x) (t : State) : FFollows row s (t.setFlags x) :=
  ⟨by rwa [State.setFlags_flags], fun _ => Flags.toByte_low x⟩

/-- The row of an accumulator operation. -/
def aluRow : AluOp → FlagRow
  | .add | .adc => (.assigned, .zero, .assigned, .assigned)
  | .sub | .sbc | .cp => (.assigned, .one, .assigned, .assigned)
  | .and => (.assigned, .zero, .one, .zero)
  | .xor | .or => (.assigned, .zero, .zero, .zero)

theorem aluResult_obeys (op : AluOp) (a v : Byte) (cin : Bool) (old : Flags) :
    FlagsObey (aluRow op) old (aluResult op a v cin).2 := by
  cases op <;> exact ⟨trivial, rfl, by trivial, by trivial⟩

theorem inc8_obeys (v : Byte) (old : Flags) : FlagsObey (.assigned, .zero, .assigned, .kept) old (inc8 v old).2 :=
  ⟨trivial, rfl, trivial, rfl⟩

theorem dec8_obeys (v : Byte) (old : Flags) : FlagsObey (.assigned, .one, .assigned, .kept) old (dec8 v old).2 :=
  ⟨trivial, rfl, trivial, rfl⟩

theorem daa8_obeys (a : Byte) (old : Flags) : FlagsObey (.assigned, .kept, .zero, .assigned) old (daa8 a old).2 :=
  ⟨trivial, rfl, rfl, trivial⟩

theorem cpl8_obeys (a : Byte) (old : Flags) : FlagsObey (.kept, .one, .one, .kept) old (cpl8 a old).2 :=
  ⟨rfl, rfl, rfl, rfl⟩

theorem scfFlags_obeys (old : Flags) : FlagsObey (.kept, .zero, .zero, .one) old (scfFlags old) := ⟨rfl, rfl, rfl, rfl⟩

theorem ccfFlags_obeys (old : Flags) : FlagsObey (.kept, .zero, .zero, .assigned) old (ccfFlags old) :=
  ⟨rfl, rfl, rfl, trivial⟩

theorem add16_obeys (compat : Bool) (a v : Word) (old : Flags) :
    FlagsObey (.assigned, .zero, .assigned, .assigned) old (add16 compat a v old).2 := ⟨trivial, rfl, trivial, trivial⟩

theorem addSigned_obeys (a : Word) (lo : Byte) (old : Flags) :
    FlagsObey (.zero, .zero, .assigned, .assigned) old (addSigned a lo).2 := ⟨rfl, rfl, trivial, trivial⟩

theorem rotateA8_obeys (compat : Bool) (op : RotOp) (v : Byte) (cin : Bool) (old : Flags) :
    FlagsObey (.assigned, .zero, .zero, .assigned) old (rotateA8 compat op v cin).2 := ⟨trivial, rfl, rfl, trivial⟩

theorem bitFlags_obeys (n : BitNo) (v : Byte) (old : Flags) :
    FlagsObey (.assigned, .zero, .one, .kept) old (bitFlags n v old) := ⟨trivial, rfl, rfl, rfl⟩

/-- The row of an extended rotate or shift: SWAP clears C. -/
def rotRow : RotOp → FlagRow
  | .swap => (.assigned, .zero, .zero, .zero)
  | _ => (.assigned, .zero, .zero, .assigned)

theorem rotate8_obeys (op : RotOp) (v : Byte) (cin : Bool) (old : Flags) :
    FlagsObey (rotRow op) old (rotate8 op v cin).2 := by
  cases op <;> exact ⟨trivial, rfl, rfl, by trivial⟩

/-- The row of `POP qq`: `POP AF` assigns all four flags. -/
def popRow : StackPair → FlagRow
  | .af => (.assigned, .assigned, .assigned, .assigned)
  | _ => keepsAll

theorem pop_follows (q : StackPair) (s : State) : FFollows (popRow q) s (s.pop q) := by
  cases q
  case af => exact ⟨⟨trivial, trivial, trivial, trivial⟩, fun _ => and_high_low _⟩
  all_goals exact .of_f_eq (by simp [State.pop])

/-! ## What an instruction can do -/

/-- The codes of the instructions that write `mode`, `run` or `ime` (R29, R30, R31): `CB`, HALT, STOP, EI, RETI, DI. -/
def controlCodes : List (DecodeMode × Byte) :=
  [(.primary, 0xCB#8), (.primary, 0x76#8), (.primary, 0x10#8), (.primary, 0xFB#8), (.primary, 0xD9#8), (.primary, 0xF3#8)]

/-- What the tables of R26, R27 and R28 say of an instruction that writes no control field. -/
def InTables (i : Instr) (row : FlagRow) (pc sp : Bool) : Prop :=
  ∃ m op, i.code = (m, op) ∧ flagRow m op = row ∧ assignsPc m op = pc ∧ changesSp m op = sp ∧ (m, op) ∉ controlCodes

/-- What an instruction can do to F, `pc`, `sp`, the control fields and the form of memory: one of the six that write a control
field does just that, any other what its entries in the tables of R26, R27 and R28 allow. -/
inductive Effect (s : State) : Instr → State → Prop where
  | di : Effect s .di (s.setIme false)
  | ei : Effect s .ei (s.setIme true)
  | reti : Effect s .reti s.reti
  | halt : Effect s .halt (s.setRun .halted)
  | stop (n : Byte) : Effect s (.stop n) (s.setRun .stopped)
  | prefix_CB : Effect s .prefix_CB (s.setMode .extended)
  | tabled {i : Instr} {t : State} {row : FlagRow} {pc sp : Bool}
      (frame : Frame pc sp s t) (flags : FFollows row s t) (tables : InTables i row pc sp) : Effect s i t

/-- The next state a result may answer satisfies `P`. -/
def NextOnly (P : State → Prop) (r : Result) : Prop := ∀ t, r = .next t → P t

theorem NextOnly.next {P : State → Prop} {t : State} (h : P t) : NextOnly P (.next t) := by
  rintro u ⟨⟩
  exact h

theorem NextOnly.admitGK {P : State → Prop} {m : String} {s t : State} (h : P t) : NextOnly P (admitGK m s t) := by
  intro u hu
  obtain ⟨-, rfl⟩ := admitGK_next hu
  exact h

theorem NextOnly.raiseUnimplemented {P : State → Prop} {op : Byte} {s : State} (h : P s) :
    NextOnly P (raiseUnimplemented op s) := by
  intro u hu
  obtain ⟨-, rfl⟩ := raiseUnimplemented_next hu
  exact h

theorem Frame.loadReg (s : State) (r : Reg8) (a : Word) : Frame false false s (s.loadReg r a) :=
  ((refl s).afterRead a).setReg r _

theorem Frame.storeA (s : State) (a : Word) : Frame false false s (s.storeA a) := (refl s).memWrite a _

theorem Frame.ret (s : State) : Frame true true s s.ret := (refl s).pop16.jump _

theorem Frame.call (s : State) (target : Word) : Frame true true s (s.call target) := ((refl s).push16 _).jump target

@[simp] theorem State.ret_f (s : State) : s.ret.f = s.f := by simp [State.ret]

@[simp] theorem State.loadReg_f (s : State) (r : Reg8) (a : Word) : (s.loadReg r a).f = s.f := by simp [State.loadReg]

@[simp] theorem State.readLoc_f (s : State) (x : Loc8) : (s.readLoc x).2.f = s.f := by cases x <;> simp

@[simp] theorem State.writeLoc_f (s : State) (x : Loc8) (v : Byte) : (s.writeLoc x v).f = s.f := by cases x <;> simp

@[simp] theorem State.incPair_f (s : State) (p : Pair) : (s.incPair p).f = s.f := by simp [State.incPair]

@[simp] theorem State.decPair_f (s : State) (p : Pair) : (s.decPair p).f = s.f := by simp [State.decPair]

@[simp] theorem State.setBit_f (s : State) (n : BitNo) (x : Loc8) : (s.setBit n x).f = s.f := by simp [State.setBit]

@[simp] theorem State.resBit_f (s : State) (n : BitNo) (x : Loc8) : (s.resBit n x).f = s.f := by simp [State.resBit]

theorem State.whenHolds_f (s : State) (cc : Cond) {t : State} (h : t.f = s.f) : (s.whenHolds cc t).f = s.f := by
  unfold State.whenHolds
  split
  · exact h
  · rfl

/-! ### The entries of the tables, by family -/

theorem inTables_alu (op : AluOp) (x : Src8) : InTables (Instr.alu op x) (aluRow op) false false := by
  obtain ((r | _) | n) := x
  · cases op <;> cases r <;> exact ⟨_, _, rfl, rfl, rfl, rfl, by decide⟩
  all_goals cases op <;> exact ⟨_, _, rfl, rfl, rfl, rfl, by decide⟩

theorem inTables_incLoc (x : Loc8) : InTables (Instr.incLoc x) (.assigned, .zero, .assigned, .kept) false false := by
  obtain (r | _) := x
  · cases r <;> exact ⟨_, _, rfl, rfl, rfl, rfl, by decide⟩
  · exact ⟨_, _, rfl, rfl, rfl, rfl, by decide⟩

theorem inTables_decLoc (x : Loc8) : InTables (Instr.decLoc x) (.assigned, .one, .assigned, .kept) false false := by
  obtain (r | _) := x
  · cases r <;> exact ⟨_, _, rfl, rfl, rfl, rfl, by decide⟩
  · exact ⟨_, _, rfl, rfl, rfl, rfl, by decide⟩

theorem inTables_ldReg (r r' : Reg8) : InTables (Instr.ldReg r r') keepsAll false false := by
  cases r <;> cases r' <;> exact ⟨_, _, rfl, rfl, rfl, rfl, by decide⟩

theorem inTables_ldImm (r : Reg8) (n : Byte) : InTables (Instr.ldImm r n) keepsAll false false := by
  cases r <;> exact ⟨_, _, rfl, rfl, rfl, rfl, by decide⟩

theorem inTables_ldFromHL (r : Reg8) : InTables (Instr.ldFromHL r) keepsAll false false := by
  cases r <;> exact ⟨_, _, rfl, rfl, rfl, rfl, by decide⟩

theorem inTables_ldToHL (r : Reg8) : InTables (Instr.ldToHL r) keepsAll false false := by
  cases r <;> exact ⟨_, _, rfl, rfl, rfl, rfl, by decide⟩

theorem inTables_ldPair (p : Pair) (nn : Word) : InTables (Instr.ldPair p nn) keepsAll false (decide (p = .sp)) := by
  cases p <;> exact ⟨_, _, rfl, rfl, rfl, rfl, by decide⟩

theorem inTables_addHL (p : Pair) : InTables (Instr.addHL p) (.assigned, .zero, .assigned, .assigned) false false := by
  cases p <;> exact ⟨_, _, rfl, rfl, rfl, rfl, by decide⟩

theorem inTables_incPair (p : Pair) : InTables (Instr.incPair p) keepsAll false (decide (p = .sp)) := by
  cases p <;> exact ⟨_, _, rfl, rfl, rfl, rfl, by decide⟩

theorem inTables_decPair (p : Pair) : InTables (Instr.decPair p) keepsAll false (decide (p = .sp)) := by
  cases p <;> exact ⟨_, _, rfl, rfl, rfl, rfl, by decide⟩

theorem inTables_push (q : StackPair) : InTables (Instr.push q) keepsAll false true := by
  cases q <;> exact ⟨_, _, rfl, rfl, rfl, rfl, by decide⟩

theorem inTables_pop (q : StackPair) : InTables (Instr.pop q) (popRow q) false true := by
  cases q <;> exact ⟨_, _, rfl, rfl, rfl, rfl, by decide⟩

theorem inTables_jpIf (cc : Cond) (nn : Word) : InTables (Instr.jpIf cc nn) keepsAll true false := by
  cases cc <;> exact ⟨_, _, rfl, rfl, rfl, rfl, by decide⟩

theorem inTables_jrIf (cc : Cond) (e : Byte) : InTables (Instr.jrIf cc e) keepsAll true false := by
  cases cc <;> exact ⟨_, _, rfl, rfl, rfl, rfl, by decide⟩

theorem inTables_callIf (cc : Cond) (nn : Word) : InTables (Instr.callIf cc nn) keepsAll true true := by
  cases cc <;> exact ⟨_, _, rfl, rfl, rfl, rfl, by decide⟩

theorem inTables_retIf (cc : Cond) : InTables (Instr.retIf cc) keepsAll true true := by
  cases cc <;> exact ⟨_, _, rfl, rfl, rfl, rfl, by decide⟩

theorem inTables_rst (v : RstVec) : InTables (Instr.rst v) keepsAll true true := by
  cases v <;> exact ⟨_, _, rfl, rfl, rfl, rfl, by decide⟩

theorem inTables_rot (op : RotOp) (x : Loc8) : InTables (Instr.rot op x) (rotRow op) false false := by
  obtain (r | _) := x
  · cases op <;> cases r <;> exact ⟨_, _, rfl, rfl, rfl, rfl, by decide⟩
  · cases op <;> exact ⟨_, _, rfl, rfl, rfl, rfl, by decide⟩

theorem inTables_bit (n : BitNo) (x : Loc8) : InTables (Instr.bit n x) (.assigned, .zero, .one, .kept) false false := by
  obtain (r | _) := x
  · cases n <;> cases r <;> exact ⟨_, _, rfl, rfl, rfl, rfl, by decide⟩
  · cases n <;> exact ⟨_, _, rfl, rfl, rfl, rfl, by decide⟩

theorem inTables_res (n : BitNo) (x : Loc8) : InTables (Instr.res n x) keepsAll false false := by
  obtain (r | _) := x
  · cases n <;> cases r <;> exact ⟨_, _, rfl, rfl, rfl, rfl, by decide⟩
  · cases n <;> exact ⟨_, _, rfl, rfl, rfl, rfl, by decide⟩

theorem inTables_set (n : BitNo) (x : Loc8) : InTables (Instr.set n x) keepsAll false false := by
  obtain (r | _) := x
  · cases n <;> cases r <;> exact ⟨_, _, rfl, rfl, rfl, rfl, by decide⟩
  · cases n <;> exact ⟨_, _, rfl, rfl, rfl, rfl, by decide⟩

/-- The tables say nothing of the unmapped bytes (R104). -/
theorem inTables_unmapped {op : Byte} (h : op ∈ unmappedOpcodes) : InTables (.unmapped op) keepsAll false false := by
  have hall : ∀ op ∈ unmappedOpcodes, flagRow .primary op = keepsAll ∧ assignsPc .primary op = false ∧
      changesSp .primary op = false ∧ (.primary, op) ∉ controlCodes := by decide
  exact ⟨_, _, rfl, hall op h⟩

/-! ### Every instruction -/

/-- An instruction that writes neither F nor a control field. -/
theorem Effect.keepsF {i : Instr} {s t : State} {pc sp : Bool} (frame : Frame pc sp s t) (hf : t.f = s.f)
    (tables : InTables i keepsAll pc sp) : Effect s i t :=
  .tabled frame (.of_f_eq hf) tables

/-- An instruction that assigns the flags. -/
theorem Effect.assignsF {i : Instr} {s t : State} {row : FlagRow} {pc sp : Bool}
    (frame : Frame pc sp s t) {x : Flags} (hx : FlagsObey row s.flags x) (tables : InTables i row pc sp) :
    Effect s i (t.setFlags x) :=
  .tabled (frame.setFlags x) (.setFlags hx t) tables

/-- What `exec` can do, once for every instruction: the case analysis by family. -/
theorem exec_effect {i : Instr} (hwf : i.wellFormed = true) (s : State) : NextOnly (Effect s i) (exec i s) := by
  induction i using Instr.by_family with
  | alu op x =>
    rw [exec_alu]
    exact .next (.assignsF ((Frame.readSrc s x).setReg .a _) (aluResult_obeys ..) (inTables_alu op x))
  | incLoc x =>
    rw [exec_incLoc]
    exact .next (.assignsF ((Frame.readLoc s x).writeLoc x _) (inc8_obeys ..) (inTables_incLoc x))
  | decLoc x =>
    rw [exec_decLoc]
    exact .next (.assignsF ((Frame.readLoc s x).writeLoc x _) (dec8_obeys ..) (inTables_decLoc x))
  | ldReg r r' =>
    rw [exec_ldReg]
    exact .next (.keepsF ((Frame.refl s).setReg r _) (by simp) (inTables_ldReg r r'))
  | ldImm r n =>
    rw [exec_ldImm]
    exact .next (.keepsF ((Frame.refl s).setReg r n) (by simp) (inTables_ldImm r n))
  | ldFromHL r =>
    rw [exec_ldFromHL]
    exact .next (.keepsF (.loadReg s r _) (by simp) (inTables_ldFromHL r))
  | ldToHL r =>
    rw [exec_ldToHL]
    exact .next (.keepsF ((Frame.refl s).memWrite _ _) rfl (inTables_ldToHL r))
  | ldPair p nn =>
    rw [exec_ldPair]
    exact .next (.keepsF ((Frame.refl s).setPair decide_eq_true nn) (by simp) (inTables_ldPair p nn))
  | addHL p =>
    rw [exec_addHL]
    exact .next (.assignsF ((Frame.refl s).setHL _) (add16_obeys ..) (inTables_addHL p))
  | incPair p =>
    rw [exec_incPair]
    exact .admitGK (.keepsF ((Frame.refl s).setPair decide_eq_true _) (by simp) (inTables_incPair p))
  | decPair p =>
    rw [exec_decPair]
    exact .admitGK (.keepsF ((Frame.refl s).setPair decide_eq_true _) (by simp) (inTables_decPair p))
  | push q =>
    rw [exec_push]
    exact .next (.keepsF ((Frame.refl s).push16 _) rfl (inTables_push q))
  | pop q =>
    rw [exec_pop]
    exact .next (.tabled ((Frame.refl s).pop16.setStackPair q _) (pop_follows q s) (inTables_pop q))
  | jpIf cc nn =>
    rw [exec_jpIf]
    exact .next (.keepsF (((Frame.refl s).jump nn).whenHolds cc) (s.whenHolds_f cc rfl) (inTables_jpIf cc nn))
  | jrIf cc e =>
    rw [exec_jrIf]
    exact .next (.keepsF (((Frame.refl s).jump _).whenHolds cc) (s.whenHolds_f cc rfl) (inTables_jrIf cc e))
  | callIf cc nn =>
    rw [exec_callIf]
    exact .next (.keepsF ((Frame.call s nn).whenHolds cc) (s.whenHolds_f cc rfl) (inTables_callIf cc nn))
  | retIf cc =>
    rw [exec_retIf]
    exact .next (.keepsF ((Frame.ret s).whenHolds cc) (s.whenHolds_f cc s.ret_f) (inTables_retIf cc))
  | rst v =>
    rw [exec_rst]
    exact .next (.keepsF (.call s _) rfl (inTables_rst v))
  | rot op x =>
    rw [exec_rot]
    exact .next (.assignsF ((Frame.readLoc s x).writeLoc x _) (rotate8_obeys ..) (inTables_rot op x))
  | bit n x =>
    rw [exec_bit]
    exact .next (.assignsF (.readLoc s x) (bitFlags_obeys ..) (inTables_bit n x))
  | res n x =>
    rw [exec_res]
    exact .next (.keepsF ((Frame.readLoc s x).writeLoc x _) (by simp) (inTables_res n x))
  | set n x =>
    rw [exec_set]
    exact .next (.keepsF ((Frame.readLoc s x).writeLoc x _) (by simp) (inTables_set n x))
  | nop => exact .admitGK (.keepsF (.refl s) rfl ⟨_, _, rfl, rfl, rfl, rfl, by decide⟩)
  | daa => exact .admitGK (.assignsF ((Frame.refl s).setReg .a _) (daa8_obeys ..) ⟨_, _, rfl, rfl, rfl, rfl, by decide⟩)
  | cpl => exact .admitGK (.assignsF ((Frame.refl s).setReg .a _) (cpl8_obeys ..) ⟨_, _, rfl, rfl, rfl, rfl, by decide⟩)
  | scf => exact .admitGK (.assignsF (.refl s) (scfFlags_obeys _) ⟨_, _, rfl, rfl, rfl, rfl, by decide⟩)
  | ccf => exact .admitGK (.assignsF (.refl s) (ccfFlags_obeys _) ⟨_, _, rfl, rfl, rfl, rfl, by decide⟩)
  | rlca | rrca | rla | rra =>
    exact .next (.assignsF ((Frame.refl s).setReg .a _) (rotateA8_obeys ..) ⟨_, _, rfl, rfl, rfl, rfl, by decide⟩)
  | add_SP_e e => exact .admitGK (.assignsF ((Frame.refl s).setSP _) (addSigned_obeys ..) ⟨_, _, rfl, rfl, rfl, rfl, by decide⟩)
  | ld_HL_SPe e => exact .next (.assignsF ((Frame.refl s).setHL _) (addSigned_obeys ..) ⟨_, _, rfl, rfl, rfl, rfl, by decide⟩)
  | ld_SP_HL => exact .next (.keepsF ((Frame.refl s).setSP _) rfl ⟨_, _, rfl, rfl, rfl, rfl, by decide⟩)
  | ld_atNN_SP nn =>
    exact .next (.keepsF (((Frame.refl s).memWrite _ _).memWrite _ _) rfl ⟨_, _, rfl, rfl, rfl, rfl, by decide⟩)
  | ld_atHL_n n => exact .next (.keepsF ((Frame.refl s).memWrite _ n) rfl ⟨_, _, rfl, rfl, rfl, rfl, by decide⟩)
  | ld_atBC_A | ld_atDE_A | ld_atC_A | ldh_atN_A | ld_atNN_A =>
    exact .next (.keepsF (.storeA s _) rfl ⟨_, _, rfl, rfl, rfl, rfl, by decide⟩)
  | ld_A_atBC | ld_A_atDE | ld_A_atC | ldh_A_atN | ld_A_atNN =>
    exact .next (.keepsF (.loadReg s .a _) rfl ⟨_, _, rfl, rfl, rfl, rfl, by decide⟩)
  | ld_atHLinc_A | ld_atHLdec_A => exact .next (.keepsF ((Frame.storeA s _).setHL _) rfl ⟨_, _, rfl, rfl, rfl, rfl, by decide⟩)
  | ld_A_atHLinc | ld_A_atHLdec =>
    exact .next (.keepsF ((Frame.loadReg s .a _).setHL _) rfl ⟨_, _, rfl, rfl, rfl, rfl, by decide⟩)
  | jr_e | jp_nn | jp_atHL => exact .next (.keepsF ((Frame.refl s).jump _) rfl ⟨_, _, rfl, rfl, rfl, rfl, by decide⟩)
  | call_nn nn => exact .next (.keepsF (.call s nn) rfl ⟨_, _, rfl, rfl, rfl, rfl, by decide⟩)
  | ret => exact .next (.keepsF (.ret s) s.ret_f ⟨_, _, rfl, rfl, rfl, rfl, by decide⟩)
  | unmapped op =>
    have hop : op ∈ unmappedOpcodes := by simpa [Instr.wellFormed] using hwf
    exact .raiseUnimplemented (.keepsF (.refl s) rfl (inTables_unmapped hop))
  | di => exact .next .di
  | ei => exact .next .ei
  | reti => exact .next .reti
  | halt => exact .admitGK .halt
  | stop n => exact .admitGK (.stop n)
  | prefix_CB => exact .next .prefix_CB

end Sys2Proof.Machine
end

section
/-! PROOFS. What a step can do (`step_effect`), and from it O44, O50, O45, O46, O47; O51. -/

open Sys2Proof Sys2Proof.Machine Sys2Proof.Claim
namespace Sys2Proof.Machine

/-! ## What every instruction keeps, by the tables -/

theorem InTables.of_code {i : Instr} {row : FlagRow} {pc sp : Bool}
    {m : DecodeMode} {op : Byte} (h : InTables i row pc sp) (hc : i.code = (m, op)) :
    flagRow m op = row ∧ assignsPc m op = pc ∧ changesSp m op = sp ∧ (m, op) ∉ controlCodes := by
  obtain ⟨m', op', hcode, rest⟩ := h
  obtain ⟨rfl, rfl⟩ := Prod.mk.inj (hcode.symm.trans hc)
  exact rest

namespace Effect

variable {s t : State} {i : Instr} {m : DecodeMode} {op : Byte}

theorem f_follows (h : Effect s i t) (hc : i.code = (m, op)) : FFollows (flagRow m op) s t := by
  cases h with
  | tabled frame flags tables =>
    obtain ⟨rfl, -⟩ := tables.of_code hc
    exact flags
  | reti => cases hc; exact .of_f_eq s.ret_f
  | di | ei | halt | stop | prefix_CB => cases hc; exact .of_f_eq rfl

theorem pc_kept (h : Effect s i t) (hc : i.code = (m, op)) (hpc : assignsPc m op = false) : t.pc = s.pc := by
  cases h with
  | tabled frame flags tables =>
    obtain ⟨-, rfl, -⟩ := tables.of_code hc
    exact frame.pc_kept hpc
  | reti => cases hc; exact absurd hpc (by decide)
  | di | ei | halt | stop | prefix_CB => rfl

theorem sp_kept (h : Effect s i t) (hc : i.code = (m, op)) (hsp : changesSp m op = false) : t.sp = s.sp := by
  cases h with
  | tabled frame flags tables =>
    obtain ⟨-, -, rfl, -⟩ := tables.of_code hc
    exact frame.sp_kept hsp
  | reti => cases hc; exact absurd hsp (by decide)
  | di | ei | halt | stop | prefix_CB => rfl

theorem params_kept (h : Effect s i t) : t.params = s.params := by
  cases h with
  | tabled frame flags tables => exact frame.params_kept
  | reti => exact (Frame.ret s).params_kept
  | di | ei | halt | stop | prefix_CB => rfl

theorem mem_wf (h : Effect s i t) (hm : s.mem.wf) : t.mem.wf := by
  cases h with
  | tabled frame flags tables => exact frame.mem_wf hm
  | reti => exact (Frame.ret s).mem_wf hm
  | di | ei | halt | stop | prefix_CB => exact hm

/-- Who writes `mode`, `run` and `ime` (R29, R30, R31). -/
theorem control (h : Effect s i t) (hc : i.code = (m, op)) :
    (t.mode = if m = .primary ∧ op = 0xCB#8 then .extended else s.mode) ∧
    (t.run = if m = .primary ∧ op = 0x76#8 then .halted else if m = .primary ∧ op = 0x10#8 then .stopped else s.run) ∧
    (t.ime = if m = .primary ∧ (op = 0xFB#8 ∨ op = 0xD9#8) then true
      else if m = .primary ∧ op = 0xF3#8 then false else s.ime) := by
  cases h with
  | tabled frame flags tables =>
    obtain ⟨-, -, -, hcontrol⟩ := tables.of_code hc
    have hno : m = .primary →
        op ≠ 0xCB#8 ∧ op ≠ 0x76#8 ∧ op ≠ 0x10#8 ∧ op ≠ 0xFB#8 ∧ op ≠ 0xD9#8 ∧ op ≠ 0xF3#8 := by
      rintro rfl
      simpa [controlCodes] using hcontrol
    rw [frame.mode_kept, frame.run_kept, frame.ime_kept]
    by_cases hm : m = .primary
    · simp [hno hm]
    · simp [hm]
  | reti =>
    cases hc
    exact ⟨(Frame.ret s).mode_kept, (Frame.ret s).run_kept, rfl⟩
  | di | ei | halt | stop | prefix_CB => cases hc; exact ⟨rfl, rfl, rfl⟩

end Effect

/-! ## What every step does -/

/-- A step of a running core is the effect of an instruction of the byte fetched, in the state after the fetch stage. -/
theorem step_effect {s t : State} (h : step s = .next t) (hrun : s.run = .running) :
    ∃ i, i.code = (s.mode, nextOp s) ∧ Effect (fetched s (1 + operandCount s.mode (nextOp s))) i t := by
  rw [step_eq_exec_fetched hrun] at h
  exact ⟨_, s.beginStep.fetchInstr_code, exec_effect s.beginStep.fetchInstr_wellFormed _ t h⟩

theorem step_idle_next {s t : State} (h : step s = .next t) (hrun : s.run ≠ .running) : t = s.beginStep := by
  rw [step_idle s hrun] at h
  exact (Host.Outcome.next.inj h).symm

theorem step_params {s t : State} (h : step s = .next t) : t.params = s.params := by
  by_cases hrun : s.run = .running
  · obtain ⟨i, -, he⟩ := step_effect h hrun
    exact he.params_kept
  · rw [step_idle_next h hrun]; rfl

end Sys2Proof.Machine

/-- Settles O44: the byte fetched is the code of the instruction executed, whose effect on F is its row of the table. -/
theorem everyStepObeysTheFlagTable : Obligations.EveryStepObeysTheFlagTable := by
  intro s t h
  by_cases hrun : s.run = .running
  · obtain ⟨i, hc, he⟩ := step_effect h hrun
    rw [if_pos hrun]
    exact (he.f_follows hc).1
  · rw [if_neg hrun, step_idle_next h hrun]
    exact ⟨rfl, rfl, rfl, rfl⟩

/-- Settles O50: the effect of an instruction keeps F[3:0] and the form of memory, and Extended mode comes from `CB` alone,
which leaves the core running. -/
theorem stepKeepsInv : Obligations.StepKeepsInv := by
  rintro s t ⟨hf, hm, hmode⟩ h
  by_cases hrun : s.run = .running
  · obtain ⟨i, hc, he⟩ := step_effect h hrun
    obtain ⟨hmode', hrun', -⟩ := he.control hc
    refine ⟨(he.f_follows hc).2 hf, he.mem_wf hm, fun hext => ?_⟩
    rw [hrun']
    rw [hmode'] at hext
    split at hext
    · next hcb => simp [hcb, fetched, hrun]
    · cases hext
  · rw [step_idle_next h hrun]
    exact ⟨hf, hm, hmode⟩

/-- Settles O45: the fetch stage puts `pc` past the instruction, and only the bytes of `assignsPc` move it after that. -/
theorem pcAdvancesByTheLength : Obligations.PcAdvancesByTheLength := by
  intro s t h hrun hpc
  obtain ⟨i, hc, he⟩ := step_effect h hrun
  exact he.pc_kept hc hpc

/-- Settles O46: the fetch stage keeps `sp`, and so does every instruction whose byte is not in R28's list. -/
theorem onlyStackInstructionsChangeSp : Obligations.OnlyStackInstructionsChangeSp := by
  intro s t h hne
  by_cases hrun : s.run = .running
  · obtain ⟨i, hc, he⟩ := step_effect h hrun
    refine ⟨hrun, ?_⟩
    by_contra hsp
    exact hne (he.sp_kept hc (Bool.eq_false_of_not_eq_true hsp))
  · rw [step_idle_next h hrun] at hne
    exact absurd rfl hne

/-- Settles O47: by the six instructions that write a control field. -/
theorem controlFieldWriters : Obligations.ControlFieldWriters := by
  intro s t h
  refine ⟨step_params h, ?_⟩
  by_cases hrun : s.run = .running
  · obtain ⟨i, hc, he⟩ := step_effect h hrun
    obtain ⟨hmode', hrun', hime'⟩ := he.control hc
    rw [if_pos hrun]
    refine ⟨?_, ?_, hime'⟩
    · rw [hmode']; split <;> simp_all [fetched]
    · rw [hrun']; simp [fetched, hrun]
  · rw [if_neg hrun, step_idle_next h hrun]
    exact ⟨rfl, rfl, rfl⟩

/-- Settles O51: each clause is a closed fact about the reset state. -/
theorem resetHasInv : Obligations.ResetHasInv := by
  unfold Obligations.ResetHasInv State.Inv
  decide
end

section
/-! PROOFS. No operation, and so no step, reads `IME` (O48); the caller's operations (O54) and the register pairs (O55). -/

open Sys2Proof Sys2Proof.Machine Sys2Proof.Claim
namespace Sys2Proof.Machine

/-! ## No operation reads `IME`: setting it before is setting it after -/

section
variable (s : State) (v : Bool)

@[simp] theorem State.setReg_setIme (r : Reg8) (x : Byte) : (s.setIme v).setReg r x = (s.setReg r x).setIme v := by
  cases r <;> rfl

@[simp] theorem State.setPair_setIme (p : Pair) (w : Word) : (s.setIme v).setPair p w = (s.setPair p w).setIme v := by
  cases p <;> rfl

@[simp] theorem State.setStackPair_setIme (q : StackPair) (w : Word) :
    (s.setIme v).setStackPair q w = (s.setStackPair q w).setIme v := by
  cases q <;> rfl

@[simp] theorem State.setFlags_setIme (x : Flags) : (s.setIme v).setFlags x = (s.setFlags x).setIme v := rfl
@[simp] theorem State.jump_setIme (w : Word) : (s.setIme v).jump w = (s.jump w).setIme v := rfl
@[simp] theorem State.afterRead_setIme (a : Word) : (s.setIme v).afterRead a = (s.afterRead a).setIme v := rfl
@[simp] theorem State.memWrite_setIme (a : Word) (x : Byte) : (s.setIme v).memWrite a x = (s.memWrite a x).setIme v := rfl
@[simp] theorem State.push16_setIme (w : Word) : (s.setIme v).push16 w = (s.push16 w).setIme v := rfl
@[simp] theorem State.readLoc_setIme (x : Loc8) :
    (s.setIme v).readLoc x = ((s.readLoc x).1, (s.readLoc x).2.setIme v) := by
  cases x with
  | reg r => simp
  | atHL => rfl

@[simp] theorem State.readSrc_setIme (x : Src8) :
    (s.setIme v).readSrc x = ((s.readSrc x).1, (s.readSrc x).2.setIme v) := by
  cases x with
  | loc y => exact s.readLoc_setIme v y
  | imm n => rfl

@[simp] theorem State.writeLoc_setIme (x : Loc8) (y : Byte) : (s.setIme v).writeLoc x y = (s.writeLoc x y).setIme v := by
  cases x with
  | reg r => exact s.setReg_setIme v r y
  | atHL => rfl

@[simp] theorem State.pop16_setIme : (s.setIme v).pop16 = (s.pop16.1, s.pop16.2.setIme v) := rfl

@[simp] theorem State.call_setIme (w : Word) : (s.setIme v).call w = (s.call w).setIme v := rfl
@[simp] theorem State.ret_setIme : (s.setIme v).ret = s.ret.setIme v := rfl
@[simp] theorem State.jumpRel_setIme (e : Byte) : (s.setIme v).jumpRel e = (s.jumpRel e).setIme v := rfl

@[simp] theorem State.holds_setIme (cc : Cond) : (s.setIme v).holds cc = s.holds cc := by cases cc <;> rfl

@[simp] theorem State.whenHolds_setIme (cc : Cond) (t : State) :
    (s.setIme v).whenHolds cc (t.setIme v) = (s.whenHolds cc t).setIme v := by
  unfold State.whenHolds
  rw [State.holds_setIme]
  split <;> rfl

end

/-- The outcome `r'` is `r`, but for `IME` of the next state, and with `IME` at `v` in the state a fault carries. -/
def SameButIme (v : Bool) (r r' : Result) : Prop :=
  match r with
  | .next t => ∃ w, r' = .next (t.setIme w)
  | .fault (.unimplementedOpcode e t) => r' = .fault (.unimplementedOpcode e (t.setIme v))
  | .fault (.unimplementedOpcodeReported e a t) => r' = .fault (.unimplementedOpcodeReported e a (t.setIme v))
  | .refused x => r' = .refused x

theorem SameButIme.next {v : Bool} {t t' : State} (w : Bool) (h : t' = t.setIme w) :
    SameButIme v (.next t) (.next t') := ⟨w, h ▸ rfl⟩

theorem SameButIme.admitGK {v : Bool} {m : String} {s t t' : State} (h : t' = t.setIme v) :
    SameButIme v (admitGK m s t) (admitGK m (s.setIme v) t') := by
  cases hgk : s.params.admitGK with
  | true => rw [admitGK_true s _ _ hgk, admitGK_true (s.setIme v) _ _ hgk]; exact .next v h
  | false => rw [admitGK_false s _ _ hgk, admitGK_false (s.setIme v) _ _ hgk]; exact rfl

theorem SameButIme.raiseUnimplemented (v : Bool) (op : Byte) (s : State) :
    SameButIme v (raiseUnimplemented op s) (raiseUnimplemented op (s.setIme v)) := by
  cases hp : s.params.unimplPolicy <;> simp [Machine.raiseUnimplemented, hp, SameButIme]

/-- Every instruction does the same whatever `IME` is: DI, EI and RETI assign it, all others carry it along (R30). -/
theorem exec_sameButIme (i : Instr) (s : State) (v : Bool) : SameButIme v (exec i s) (exec i (s.setIme v)) := by
  induction i using Instr.by_family with
  | alu op x => rw [exec_alu, exec_alu]; exact .next v (by simp [State.aluA, State.a_eq_reg])
  | incLoc x => rw [exec_incLoc, exec_incLoc]; exact .next v (by simp [State.incLoc])
  | decLoc x => rw [exec_decLoc, exec_decLoc]; exact .next v (by simp [State.decLoc])
  | ldReg r r' => rw [exec_ldReg, exec_ldReg]; exact .next v (by simp)
  | ldImm r n => rw [exec_ldImm, exec_ldImm]; exact .next v (by simp)
  | ldFromHL r => rw [exec_ldFromHL, exec_ldFromHL]; exact .next v (by simp [State.loadReg])
  | ldToHL r => rw [exec_ldToHL, exec_ldToHL]; exact .next v (by simp)
  | ldPair p nn => rw [exec_ldPair, exec_ldPair]; exact .next v (by simp)
  | addHL p => rw [exec_addHL, exec_addHL]; exact .next v (by simp [State.addHL])
  | incPair p => rw [exec_incPair, exec_incPair]; exact .admitGK (by simp [State.incPair])
  | decPair p => rw [exec_decPair, exec_decPair]; exact .admitGK (by simp [State.decPair])
  | push q => rw [exec_push, exec_push]; exact .next v (by simp [State.push])
  | pop q => rw [exec_pop, exec_pop]; exact .next v (by simp [State.pop])
  | jpIf cc nn => rw [exec_jpIf, exec_jpIf]; exact .next v (by simp)
  | jrIf cc e => rw [exec_jrIf, exec_jrIf]; exact .next v (by simp)
  | callIf cc nn => rw [exec_callIf, exec_callIf]; exact .next v (by simp)
  | retIf cc => rw [exec_retIf, exec_retIf]; exact .next v (by simp)
  | rst t => rw [exec_rst, exec_rst]; exact .next v rfl
  | rot op x => rw [exec_rot, exec_rot]; exact .next v (by simp [State.rotateLoc])
  | bit n x => rw [exec_bit, exec_bit]; exact .next v (by simp [State.bitTest])
  | res n x => rw [exec_res, exec_res]; exact .next v (by simp [State.resBit])
  | set n x => rw [exec_set, exec_set]; exact .next v (by simp [State.setBit])
  | unmapped op => exact .raiseUnimplemented v op s
  | di => exact .next false rfl
  | ei | reti => exact .next true rfl
  | nop | stop | halt | daa | cpl | scf | ccf | add_SP_e => exact .admitGK rfl
  | _ => exact .next v rfl

/-- A step does the same whatever `IME` is: its fetch stage does not look at it either. -/
theorem step_sameButIme (s : State) (v : Bool) : SameButIme v (step s) (step (s.setIme v)) := by
  by_cases hrun : s.run = .running
  · have hinstr : (s.setIme v).beginStep.fetchInstr.1 = s.beginStep.fetchInstr.1 := by
      rw [State.fetchInstr_instr, State.fetchInstr_instr]; rfl
    rw [step_eq_exec_fetched hrun, step_eq_exec_fetched (s := s.setIme v) hrun, hinstr]
    exact exec_sameButIme ..
  · rw [step_idle s hrun, step_idle (s.setIme v) hrun]
    exact .next v rfl

/-! ## The stack and the pairs -/

/-- A push stores its word and changes nothing else (R291). -/
theorem pushed_push16 (s : State) (w : Word) : Pushed w s (s.push16 w) := by
  refine ⟨s.push16_sp w, ⟨fun a ha => ?_, fun hm c hc => ?_⟩, s.push16_bus w, ?_⟩
  · simp only [List.map_cons, List.map_nil, List.mem_cons, List.not_mem_nil, or_false, not_or] at ha
    exact s.push16_byteAt_other w a ha.1 ha.2
  · obtain ⟨hhi, hlo⟩ := s.push16_byteAt_slot w hm
    simp only [List.mem_cons, List.not_mem_nil, or_false] at hc
    obtain rfl | rfl := hc
    · exact hhi
    · exact hlo
  · cases h : s.params.memory <;> simp [isRead]

/-- Clearing the low nibble of a word's low byte (R22). -/
theorem wordOf_mask_low (w : Word) : wordOf (hiByte w) (loByte w &&& 0xF0#8) = w &&& 0xFFF0#16 := by
  have hmask : (0xFFF0#16 : Word) = wordOf 0xFF#8 0xF0#8 := by decide
  have hhi : hiByte w &&& 0xFF#8 = hiByte w := BitVec.and_allOnes
  calc wordOf (hiByte w) (loByte w &&& 0xF0#8)
      = wordOf (hiByte w &&& 0xFF#8) (loByte w &&& 0xF0#8) := by rw [hhi]
    _ = wordOf (hiByte w) (loByte w) &&& wordOf 0xFF#8 0xF0#8 := BitVec.and_append.symm
    _ = w &&& 0xFFF0#16 := by rw [wordOf_bytes, hmask]

theorem State.interruptEntry_eq_some_iff (s t : State) (vector : Word) :
    s.interruptEntry vector = some t ↔
      s.mode = .primary ∧ s.ime = true ∧ t = (((s.setIme false).push16 s.pc).jump vector).setRun .running := by
  have hclear : s.imeClear = s.setIme false := rfl
  have hresume : ∀ u : State, u.resume = u.setRun .running := fun _ => rfl
  rw [State.interruptEntry, State.imeRead, hclear, hresume]
  cases s.mode <;> cases s.ime <;> simp [eq_comm]

end Sys2Proof.Machine

/-- Settles O48: every operation commutes with setting `IME`. -/
theorem noStepReadsIme : Obligations.NoStepReadsIme := fun s v => step_sameButIme s v

/-- Settles O54: the interrupt entry is a push and a jump with the gate closed (R347). -/
theorem callerOperations : Obligations.CallerOperations := by
  refine fun s => ⟨rfl, rfl, rfl, fun vector => ⟨?_, fun t ht => ?_⟩⟩
  · simp [Option.isSome_iff_exists, State.interruptEntry_eq_some_iff]
  · obtain ⟨-, -, rfl⟩ := (s.interruptEntry_eq_some_iff t vector).1 ht
    exact ⟨rfl, rfl, rfl, pushed_push16 s s.pc, fun r => by simp, rfl, rfl, rfl⟩

/-- Settles O55: the halves of a word put together are the word (R5). -/
theorem pairsAreViews : Obligations.PairsAreViews := by
  intro s w
  refine ⟨fun q hq => ?_, ?_, rfl, rfl, rfl, rfl, rfl, rfl, rfl, rfl, rfl, rfl⟩
  · cases q with
    | af => exact absurd rfl hq
    | bc | de | hl => exact wordOf_bytes w
  · exact wordOf_mask_low w
end

section
/-! PROOFS. Memory is the replay of the calls recorded (O49): what one call does to the record and to memory, and from it what
every instruction and every step do. -/

open Sys2Proof Sys2Proof.Machine Sys2Proof.Claim
namespace Sys2Proof.Machine

theorem replays_append {m m' m'' : Memory} {xs ys : List Access} (h : Replays m xs m') (h' : Replays m' ys m'') :
    Replays m (xs ++ ys) m'' := by
  induction xs generalizing m with
  | nil => cases h; exact h'
  | cons x xs ih =>
    cases x with
    | read a v => exact ⟨h.1, ih h.2⟩
    | write a v => exact ih h

/-- From `s` to `t` the record of the calls grew at its end only, and in plain RAM the calls added take memory from what it was
to what it is (R65, R69). The parameters are kept, so `t` is in plain RAM when `s` is. -/
def Replayed (s t : State) : Prop :=
  t.params = s.params ∧
  ∃ calls, t.bus = s.bus ++ calls ∧ (s.params.memory = .ram → Replays s.mem calls t.mem)

namespace Replayed

variable {s t u : State}

theorem refl (s : State) : Replayed s s := ⟨rfl, [], by simp, fun _ => rfl⟩

theorem trans (h : Replayed s t) (h' : Replayed t u) : Replayed s u := by
  obtain ⟨hparams, calls, hbus, hmem⟩ := h
  obtain ⟨hparams', calls', hbus', hmem'⟩ := h'
  refine ⟨hparams'.trans hparams, calls ++ calls', by rw [hbus', hbus, List.append_assoc], fun hram => ?_⟩
  exact replays_append (hmem hram) (hmem' (by rw [hparams, hram]))

/-! ### The calls of the memory interface (R61) -/

theorem afterRead (h : Replayed s t) (a : Word) : Replayed s (t.afterRead a) :=
  h.trans ⟨rfl, [.read a (t.upcoming 0 a)], rfl, fun hram => ⟨t.upcoming_ram hram 0 a, rfl⟩⟩

theorem memWrite (h : Replayed s t) (a : Word) (v : Byte) : Replayed s (t.memWrite a v) :=
  h.trans ⟨rfl, [.write a v], rfl, fun _ => rfl⟩

/-! ### The operations that make no call -/

/-- What changes neither memory nor the record makes no call. -/
theorem noCall (h : Replayed s t) (hparams : u.params = t.params) (hbus : u.bus = t.bus) (hmem : u.mem = t.mem) :
    Replayed s u :=
  h.trans ⟨hparams, [], by simp [hbus], fun _ => hmem⟩

theorem setReg (h : Replayed s t) (r : Reg8) (v : Byte) : Replayed s (t.setReg r v) := h.noCall (by simp) (by simp) (by simp)

theorem setPair (h : Replayed s t) (p : Pair) (w : Word) : Replayed s (t.setPair p w) :=
  h.noCall (by simp) (by simp) (by simp)

theorem setStackPair (h : Replayed s t) (q : StackPair) (w : Word) : Replayed s (t.setStackPair q w) :=
  h.noCall (by simp) (by simp) (by simp)

theorem setFlags (h : Replayed s t) (x : Flags) : Replayed s (t.setFlags x) := h.noCall rfl rfl rfl
theorem jump (h : Replayed s t) (w : Word) : Replayed s (t.jump w) := h.noCall rfl rfl rfl
theorem setMode (h : Replayed s t) (m : DecodeMode) : Replayed s (t.setMode m) := h.noCall rfl rfl rfl
theorem setIme (h : Replayed s t) (v : Bool) : Replayed s (t.setIme v) := h.noCall rfl rfl rfl
theorem setRun (h : Replayed s t) (r : RunState) : Replayed s (t.setRun r) := h.noCall rfl rfl rfl

/-! ### The shared operations -/

theorem fetch8 (h : Replayed s t) : Replayed s t.fetch8.2 := (h.afterRead _).jump _

theorem push8 (h : Replayed s t) (v : Byte) : Replayed s (t.push8 v) := (h.setPair .sp _).memWrite _ v

theorem push16 (h : Replayed s t) (w : Word) : Replayed s (t.push16 w) := (h.push8 _).push8 _

theorem pop16 (h : Replayed s t) : Replayed s t.pop16.2 := by
  rw [State.pop16_state]
  exact ((h.afterRead _).afterRead _).setPair .sp _

theorem readLoc (s : State) (x : Loc8) : Replayed s (s.readLoc x).2 := by
  cases x with
  | reg r => exact refl s
  | atHL => exact (refl s).afterRead _

theorem readSrc (s : State) (x : Src8) : Replayed s (s.readSrc x).2 := by
  cases x with
  | loc y => exact readLoc s y
  | imm n => exact refl s

theorem writeLoc (h : Replayed s t) (x : Loc8) (v : Byte) : Replayed s (t.writeLoc x v) := by
  cases x with
  | reg r => exact h.setReg r v
  | atHL => exact h.memWrite _ v

theorem whenHolds (h : Replayed s t) (cc : Cond) : Replayed s (s.whenHolds cc t) := by
  unfold State.whenHolds
  split
  · exact h
  · exact refl s

theorem loadReg (s : State) (r : Reg8) (a : Word) : Replayed s (s.loadReg r a) := ((refl s).afterRead a).setReg r _

theorem storeA (s : State) (a : Word) : Replayed s (s.storeA a) := (refl s).memWrite a _

theorem call (s : State) (target : Word) : Replayed s (s.call target) := ((refl s).push16 _).jump target

theorem ret (s : State) : Replayed s s.ret := (refl s).pop16.jump _

/-- The fetch stage of a step: as many reads as bytes (R107). -/
theorem fetched (s : State) (n : Nat) : Replayed s.beginStep (fetched s n) := by
  induction n with
  | zero => rw [fetched_zero]; exact (refl _).setMode .primary
  | succ n ih => rw [fetched_succ]; exact ih.fetch8

end Replayed

/-- Every instruction reaches memory by its calls only. -/
theorem exec_replayed (i : Instr) (s : State) : NextOnly (Replayed s) (exec i s) := by
  have same := Replayed.refl s
  induction i using Instr.by_family with
  | alu op x => rw [exec_alu]; exact .next (((Replayed.readSrc s x).setReg .a _).setFlags _)
  | incLoc x => rw [exec_incLoc]; exact .next (((Replayed.readLoc s x).writeLoc x _).setFlags _)
  | decLoc x => rw [exec_decLoc]; exact .next (((Replayed.readLoc s x).writeLoc x _).setFlags _)
  | ldReg r r' => rw [exec_ldReg]; exact .next (same.setReg r _)
  | ldImm r n => rw [exec_ldImm]; exact .next (same.setReg r n)
  | ldFromHL r => rw [exec_ldFromHL]; exact .next (.loadReg s r _)
  | ldToHL r => rw [exec_ldToHL]; exact .next (same.memWrite _ _)
  | ldPair p nn => rw [exec_ldPair]; exact .next (same.setPair p nn)
  | addHL p => rw [exec_addHL]; exact .next ((same.setPair .hl _).setFlags _)
  | incPair p => rw [exec_incPair]; exact .admitGK (same.setPair p _)
  | decPair p => rw [exec_decPair]; exact .admitGK (same.setPair p _)
  | push q => rw [exec_push]; exact .next (same.push16 _)
  | pop q => rw [exec_pop]; exact .next (same.pop16.setStackPair q _)
  | jpIf cc nn => rw [exec_jpIf]; exact .next ((same.jump nn).whenHolds cc)
  | jrIf cc e => rw [exec_jrIf]; exact .next ((same.jump _).whenHolds cc)
  | callIf cc nn => rw [exec_callIf]; exact .next ((Replayed.call s nn).whenHolds cc)
  | retIf cc => rw [exec_retIf]; exact .next ((Replayed.ret s).whenHolds cc)
  | rst v => rw [exec_rst]; exact .next (.call s _)
  | rot op x => rw [exec_rot]; exact .next (((Replayed.readLoc s x).writeLoc x _).setFlags _)
  | bit n x => rw [exec_bit]; exact .next ((Replayed.readLoc s x).setFlags _)
  | res n x => rw [exec_res]; exact .next ((Replayed.readLoc s x).writeLoc x _)
  | set n x => rw [exec_set]; exact .next ((Replayed.readLoc s x).writeLoc x _)
  | nop => exact .admitGK same
  | daa | cpl => exact .admitGK ((same.setReg .a _).setFlags _)
  | scf | ccf => exact .admitGK (same.setFlags _)
  | rlca | rrca | rla | rra => exact .next ((same.setReg .a _).setFlags _)
  | add_SP_e e => exact .admitGK ((same.setPair .sp _).setFlags _)
  | ld_HL_SPe e => exact .next ((same.setPair .hl _).setFlags _)
  | ld_SP_HL => exact .next (same.setPair .sp _)
  | ld_atNN_SP nn => exact .next ((same.memWrite _ _).memWrite _ _)
  | ld_atHL_n n => exact .next (same.memWrite _ n)
  | ld_atBC_A | ld_atDE_A | ld_atC_A | ldh_atN_A | ld_atNN_A => exact .next (.storeA s _)
  | ld_A_atBC | ld_A_atDE | ld_A_atC | ldh_A_atN | ld_A_atNN => exact .next (.loadReg s .a _)
  | ld_atHLinc_A | ld_atHLdec_A => exact .next ((Replayed.storeA s _).setPair .hl _)
  | ld_A_atHLinc | ld_A_atHLdec => exact .next ((Replayed.loadReg s .a _).setPair .hl _)
  | jr_e | jp_nn | jp_atHL => exact .next (same.jump _)
  | call_nn nn => exact .next (.call s nn)
  | ret => exact .next (.ret s)
  | reti => exact .next ((Replayed.ret s).setIme true)
  | di | ei => exact .next (same.setIme _)
  | halt | stop => exact .admitGK (same.setRun _)
  | prefix_CB => exact .next (same.setMode .extended)
  | unmapped op => exact .raiseUnimplemented same

/-- The instruction of a step adds its calls to those of the fetch stage. -/
theorem step_replayed_fetched {s t : State} (h : step s = .next t) (hrun : s.run = .running) :
    Replayed (fetched s (1 + operandCount s.mode (nextOp s))) t := by
  rw [step_eq_exec_fetched hrun] at h
  exact exec_replayed _ _ t h

theorem step_replayed {s t : State} (h : step s = .next t) : Replayed s.beginStep t := by
  by_cases hrun : s.run = .running
  · exact (Replayed.fetched s _).trans (step_replayed_fetched h hrun)
  · rw [step_idle_next h hrun]
    exact .refl _

end Sys2Proof.Machine

/-- Settles O49: a step starts from an empty record, which its fetch stage and then its instruction extend. -/
theorem memoryIsTheReplayOfTheCalls : Obligations.MemoryIsTheReplayOfTheCalls := by
  intro s t hram h
  refine ⟨?_, fun hrun => ?_⟩
  · obtain ⟨-, calls, hbus, hmem⟩ := step_replayed h
    rw [hbus]
    exact hmem hram
  · obtain ⟨-, data, hbus, -⟩ := step_replayed_fetched h hrun
    exact ⟨data, hbus⟩
end

section
/-! PROOFS. The decoder on a list of bytes: what it answers by the number of operand bytes, and which bytes are unmapped. -/

open Sys2Proof Sys2Proof.Machine Sys2Proof.Claim
namespace Sys2Proof

/-- With two bytes after the opcode no operand is missing: the operand bytes the opcode has are read, the others are zero, and
what follows them is left (R90, R101). -/
theorem decode_opcode_and_two_bytes (m : DecodeMode) (op lo hi : Byte) (rest : List Byte) :
    decode m (op :: lo :: hi :: rest) =
      .ok (decodeOp m op (if operandCount m op = 0 then 0#8 else lo) (if operandCount m op = 2 then hi else 0#8),
        (lo :: hi :: rest).drop (operandCount m op)) := by
  have hle := operandCount_le_two m op
  unfold decode
  dsimp only
  generalize operandCount m op = n at hle
  match n, hle with
  | 0, _ => rfl
  | 1, _ => rfl
  | 2, _ => rfl

/-- The primary map's entry at each of the eleven bytes of R104. -/
theorem decodeOp_of_mem_unmappedBytes {op : Byte} (h : op ∈ unmappedBytes) (lo hi : Byte) :
    decodeOp .primary op lo hi = .unmapped op := by
  have hentries : unmappedBytes.map (decodeOp .primary · lo hi) = unmappedBytes.map .unmapped := rfl
  exact List.map_inj_left.1 hentries op h

/-- No other byte is unmapped: `unmapped b` has the code of the byte it was decoded from, and is well formed for the eleven
only. -/
theorem decodeOp_eq_unmapped_iff (m : DecodeMode) (op lo hi : Byte) :
    (∃ b, decodeOp m op lo hi = .unmapped b) ↔ m = .primary ∧ op ∈ unmappedBytes := by
  constructor
  · rintro ⟨b, hb⟩
    have hcode : (DecodeMode.primary, b) = (m, op) := by
      rw [← decodeOp_code m op lo hi, hb]
      rfl
    obtain ⟨rfl, rfl⟩ := Prod.mk.inj hcode
    have hwf := decodeOp_wellFormed .primary b lo hi
    rw [hb] at hwf
    exact ⟨rfl, List.contains_iff_mem.1 hwf⟩
  · rintro ⟨rfl, hop⟩
    exact ⟨op, decodeOp_of_mem_unmappedBytes hop lo hi⟩

end Sys2Proof

/-- Settles O58: the answer is the map's entry, whose code is the mode and the byte. -/
theorem decoderIsTotalOnBytes : Obligations.DecoderIsTotalOnBytes := by
  intro m op lo hi rest
  exact ⟨_, congrArg Prod.snd (decodeOp_code ..), congrArg Prod.fst (decodeOp_code ..),
    decode_opcode_and_two_bytes m op lo hi rest, decodeOp_eq_unmapped_iff ..⟩
end

section
/-! PROOFS. The vocabulary of the statements about an instruction, one rule per state operation: what it assigns to F
(`FlagsAre`), what it leaves alone (`OnlyRegisters`), what it writes back (`Rewrites`). -/

open Sys2Proof Sys2Proof.Machine Sys2Proof.Claim
namespace Sys2Proof.Claim

/-! ## The flags -/

theorem flagsAre_setFlags (z n h c : Bool) (t : State) : FlagsAre z n h c (t.setFlags ⟨z, n, h, c⟩) := by
  obtain ⟨hz, hn, hh, hc⟩ := Flags.toByte_bits ⟨z, n, h, c⟩
  exact ⟨hz, hn, hh, hc, Flags.toByte_low _⟩

/-! ## Registers only -/

namespace OnlyRegisters

variable {changed : List Reg8} {calls : List Access} {s t : State}

theorem refl (s : State) : OnlyRegisters [] [] s s := by
  refine ⟨⟨fun _ _ => rfl, rfl, rfl, rfl, rfl⟩, ⟨rfl, rfl⟩, ⟨fun _ _ => rfl, by simp⟩, by simp, ?_⟩
  cases s.params.memory <;> rfl

theorem afterRead (s : State) (a : Word) : OnlyRegisters [] [.read a (s.upcoming 0 a)] s (s.afterRead a) :=
  ⟨⟨fun _ _ => by simp, rfl, rfl, rfl, rfl⟩, ⟨rfl, rfl⟩, ⟨fun _ _ => rfl, by simp⟩, rfl, rfl⟩

theorem setReg (h : OnlyRegisters changed calls s t) (r : Reg8) (v : Byte) :
    OnlyRegisters (r :: changed) calls s (t.setReg r v) := by
  obtain ⟨⟨hreg, hcontrol⟩, hpointers, hstores, hmade⟩ := h
  refine ⟨⟨fun r' hr' => ?_, by simpa using hcontrol⟩, by simpa [KeepsPointers] using hpointers,
    by simpa [Stores] using hstores, by simpa [Made] using hmade⟩
  obtain ⟨hne, hr'⟩ := not_or.1 (mt List.mem_cons.2 hr')
  rw [State.setReg_reg, if_neg hne, hreg r' hr']

theorem setFlags (h : OnlyRegisters changed calls s t) (x : Flags) : OnlyRegisters changed calls s (t.setFlags x) := by
  obtain ⟨⟨hreg, hcontrol⟩, rest⟩ := h
  exact ⟨⟨fun r hr => by rw [State.setFlags_reg, hreg r hr], hcontrol⟩, rest⟩

theorem readLoc (s : State) (x : Loc8) : OnlyRegisters [] (locReads x s) s (s.readLoc x).2 := by
  cases x with
  | reg r => exact refl s
  | atHL => exact afterRead s s.hl

theorem readSrc (s : State) (x : Src8) : OnlyRegisters [] (srcReads x s) s (s.readSrc x).2 := by
  cases x with
  | loc y => exact readLoc s y
  | imm n => exact refl s

/-- A register that holds what it held need not be listed. -/
theorem of_reg_eq {r : Reg8} (h : OnlyRegisters (r :: changed) calls s t) (hr : t.reg r = s.reg r) :
    OnlyRegisters changed calls s t := by
  obtain ⟨⟨hreg, hcontrol⟩, rest⟩ := h
  refine ⟨⟨fun r' hr' => ?_, hcontrol⟩, rest⟩
  by_cases hrr : r' = r
  · rw [hrr, hr]
  · exact hreg r' fun hm => (List.mem_cons.1 hm).elim hrr hr'

end OnlyRegisters

/-! ## Operands -/

theorem readLoc_eq_locByte (s : State) (x : Loc8) : (s.readLoc x).1 = locByte x s := by cases x <;> rfl

theorem readSrc_eq_srcByte (s : State) (x : Src8) : (s.readSrc x).1 = srcByte x s := by
  cases x with
  | loc y => exact readLoc_eq_locByte s y
  | imm n => rfl

theorem stores_memWrite (s : State) (a : Word) (v : Byte) : Stores [(a, v)] s (s.memWrite a v) := by
  refine ⟨fun b hb => s.memWrite_byteAt_other a b v (by simpa using hb), fun hm c hc => ?_⟩
  obtain rfl := List.mem_singleton.1 hc
  rw [s.memWrite_byteAt hm, if_pos rfl]

/-- Reading an operand and writing it back (R93). -/
theorem rewrites_writeLoc (s : State) (x : Loc8) (v : Byte) : Rewrites x v s ((s.readLoc x).2.writeLoc x v) := by
  cases x with
  | reg r => exact ⟨s.setReg_same r v, (OnlyRegisters.refl s).setReg r v⟩
  | atHL =>
    exact ⟨⟨fun r _ => by simp, rfl, rfl, rfl, rfl⟩, ⟨rfl, rfl⟩, stores_memWrite (s.afterRead s.hl) s.hl v,
      by simp [State.hl], rfl⟩

theorem Rewrites.setFlags {x : Loc8} {v : Byte} {s t : State} (h : Rewrites x v s t) (y : Flags) :
    Rewrites x v s (t.setFlags y) := by
  cases x with
  | reg r =>
    obtain ⟨hv, honly⟩ := h
    exact ⟨by rw [State.setFlags_reg, hv], honly.setFlags y⟩
  | atHL =>
    obtain ⟨⟨hreg, hcontrol⟩, rest⟩ := h
    exact ⟨⟨fun r hr => by rw [State.setFlags_reg, hreg r hr], hcontrol⟩, rest⟩

end Sys2Proof.Claim
end

section
/-! PROOFS. 8-bit arithmetic and logic (40_alu8.md): the encodings, the results as arithmetic, and from them O1, O3, O4, O5,
O6, O7, O8, O9 and O11. -/

open Sys2Proof Sys2Proof.Machine Sys2Proof.Claim
namespace Sys2Proof.Machine

/-! ## Encodings -/

/-- The 3-bit code of an accumulator operation (R96). -/
def aluCode : AluOp → Nat
  | .add => 0 | .adc => 1 | .sub => 2 | .sbc => 3 | .and => 4 | .xor => 5 | .or => 6 | .cp => 7

theorem encodedAlu (op : AluOp) : EncodedAlu op (aluCode op) := by
  constructor
  · rintro (r | _)
    · cases op <;> cases r <;> exact ⟨rfl, fun _ _ => rfl⟩
    · cases op <;> exact ⟨rfl, fun _ _ => rfl⟩
  · cases op <;> exact ⟨rfl, fun _ _ => rfl⟩

theorem encoded_incLoc (x : Loc8) : Encoded .primary (opcode 0 (locCode x) 4) 0 fun _ _ => Instr.incLoc x := by
  obtain (r | _) := x
  · cases r <;> exact ⟨rfl, fun _ _ => rfl⟩
  · exact ⟨rfl, fun _ _ => rfl⟩

theorem encoded_decLoc (x : Loc8) : Encoded .primary (opcode 0 (locCode x) 5) 0 fun _ _ => Instr.decLoc x := by
  obtain (r | _) := x
  · cases r <;> exact ⟨rfl, fun _ _ => rfl⟩
  · exact ⟨rfl, fun _ _ => rfl⟩

/-! ## Results as arithmetic -/

theorem carryIn_eq_toNat (cin : Bool) : carryIn cin = cin.toNat := by cases cin <;> rfl

theorem byte_sub_toNat (a v : Byte) : ((a - v).toNat : Int) = ((a.toNat : Int) - v.toNat) % 256 := by
  have := v.isLt
  rw [BitVec.toNat_sub]
  omega

/-- The difference of SBC (R134). -/
theorem byte_sub_sub_carry_toNat (a v : Byte) (cin : Bool) :
    ((a - v - byteOf cin.toNat).toNat : Int) = ((a.toNat : Int) - v.toNat - cin.toNat) % 256 := by
  have hcin : (byteOf cin.toNat).toNat = cin.toNat := by cases cin <;> rfl
  rw [byte_sub_toNat, byte_sub_toNat, hcin, Int.emod_sub_emod]

/-- A difference is zero when its operands are equal (R138). -/
theorem byte_sub_beq_zero (a v : Byte) : (a - v == 0#8) = decide (a = v) := by
  rw [Bool.eq_iff_iff, beq_iff_eq, decide_eq_true_iff]
  exact sub_eq_zero

theorem inc8_eq (v : Byte) (old : Flags) :
    inc8 v old = (BitVec.ofNat 8 (v.toNat + 1),
      ⟨decide (v.toNat = 0xFF), false, decide (v.toNat % 16 = 0x0F), old.c⟩) := by
  have hres : v + 1#8 = BitVec.ofNat 8 (v.toNat + 1) := by bv_omega
  have hz : (v + 1#8 == 0#8) = decide (v.toNat = 0xFF) := by
    rw [Bool.eq_iff_iff, beq_iff_eq, decide_eq_true_iff]
    bv_omega
  rw [inc8, hz, hres]

theorem dec8_eq (v : Byte) (old : Flags) :
    dec8 v old = (BitVec.ofNat 8 (v.toNat + 255),
      ⟨decide (v.toNat = 1), true, decide (v.toNat % 16 = 0), old.c⟩) := by
  have hres : v - 1#8 = BitVec.ofNat 8 (v.toNat + 255) := by bv_omega
  have hz : (v - 1#8 == 0#8) = decide (v.toNat = 1) := by
    rw [byte_sub_beq_zero, decide_eq_decide]
    bv_omega
  rw [dec8, hz, hres]

/-- The two digits of DAA's adjustment do not overlap (R168). -/
theorem daa_adjustment_toNat (low high : Bool) :
    ((if low then 0x06#8 else 0#8) ||| (if high then 0x60#8 else 0#8)).toNat =
      (if low then 6 else 0) + (if high then 0x60 else 0) := by
  cases low <;> cases high <;> rfl

/-- DAA after a subtraction (R168). -/
theorem daa8_sub {old : Flags} (hn : old.n = true) (a : Byte) :
    ((daa8 a old).1.toNat : Int) =
      ((a.toNat : Int) - (if old.h then 6 else 0) - (if old.c then 0x60 else 0)) % 256 ∧
    (daa8 a old).2 = ⟨(daa8 a old).1 == 0#8, true, false, old.c⟩ := by
  have hlow : daaLow a old = old.h := by simp [daaLow, hn]
  have hhigh : daaHigh a old = old.c := by simp [daaHigh, hn]
  simp only [daa8, hlow, hhigh, hn, if_true, and_true]
  rw [byte_sub_toNat, daa_adjustment_toNat]
  push_cast
  rw [sub_sub]

/-- DAA after an addition (R168). -/
theorem daa8_add {old : Flags} (hn : old.n = false) (a : Byte) :
    (daa8 a old).1.toNat =
      (a.toNat + (if old.h || decide (9 < a.toNat % 16) then 6 else 0) +
        (if old.c || decide (0x99 < a.toNat) then 0x60 else 0)) % 256 ∧
    (daa8 a old).2 = ⟨(daa8 a old).1 == 0#8, false, false, old.c || decide (0x99 < a.toNat)⟩ := by
  have hlow : daaLow a old = (old.h || decide (9 < a.toNat % 16)) := by simp [daaLow, hn]
  have hhigh : daaHigh a old = (old.c || decide (0x99 < a.toNat)) := by simp [daaHigh, hn]
  simp only [daa8, hlow, hhigh, hn, Bool.false_eq_true, if_false, and_true]
  rw [BitVec.toNat_add, daa_adjustment_toNat, Nat.add_assoc]

/-! ## What the meanings do -/

/-- What every accumulator operation does (R130, R139): the result and the flags of `aluResult` in A and F. -/
theorem exec_alu_assigns (x : Src8) (s : State) {op : AluOp} {v : Byte} {z n h c : Bool}
    (hres : aluResult op s.a (srcByte x s) (cf s) = (v, ⟨z, n, h, c⟩)) :
    ∃ t, exec (Instr.alu op x) s = .next t ∧ t.a = v ∧ FlagsAre z n h c t ∧ OnlyRegisters [.a] (srcReads x s) s t := by
  have ht : s.aluA op x = ((s.readSrc x).2.setReg .a v).setFlags ⟨z, n, h, c⟩ := by
    have hc : s.flags.c = cf s := rfl
    rw [State.aluA, readSrc_eq_srcByte, hc, hres]
  exact ⟨_, (exec_alu op x s).trans (congrArg _ ht), rfl, flagsAre_setFlags ..,
    ((OnlyRegisters.readSrc s x).setReg .a v).setFlags _⟩

/-- The same for the operations whose flag Z says that A is zero: all but CP. -/
theorem exec_alu_assigns_zero (x : Src8) (s : State) {op : AluOp} {v : Byte} {n h c : Bool}
    (hres : aluResult op s.a (srcByte x s) (cf s) = (v, ⟨v == 0#8, n, h, c⟩)) :
    ∃ t, exec (Instr.alu op x) s = .next t ∧ t.a = v ∧ FlagsAre (t.a == 0#8) n h c t ∧
      OnlyRegisters [.a] (srcReads x s) s t := by
  obtain ⟨t, hexec, ha, hflags, honly⟩ := exec_alu_assigns x s hres
  exact ⟨t, hexec, ha, by rwa [ha], honly⟩

theorem State.incLoc_eq (s : State) (x : Loc8) : s.incLoc x =
    ((s.readLoc x).2.writeLoc x (inc8 (locByte x s) s.flags).1).setFlags (inc8 (locByte x s) s.flags).2 := by
  rw [State.incLoc, readLoc_eq_locByte]

theorem State.decLoc_eq (s : State) (x : Loc8) : s.decLoc x =
    ((s.readLoc x).2.writeLoc x (dec8 (locByte x s) s.flags).1).setFlags (dec8 (locByte x s) s.flags).2 := by
  rw [State.decLoc, readLoc_eq_locByte]

end Sys2Proof.Machine

/-- Settles O1: the sum of `add8`, which has no incoming carry. -/
theorem addAssignsSumAndCarries : Obligations.AddAssignsSumAndCarries := by
  refine ⟨encodedAlu .add, fun x s => ?_⟩
  obtain ⟨t, hexec, ha, rest⟩ := exec_alu_assigns_zero (op := .add) x s rfl
  exact ⟨t, hexec, by rw [ha]; rfl, rest⟩

/-- Settles O3: the difference of `sub8`, which has no incoming carry. -/
theorem subAssignsDifferenceAndBorrows : Obligations.SubAssignsDifferenceAndBorrows := by
  refine ⟨encodedAlu .sub, fun x s => ?_⟩
  obtain ⟨t, hexec, ha, rest⟩ := exec_alu_assigns_zero (op := .sub) x s rfl
  refine ⟨t, hexec, ?_, rest⟩
  rw [ha, carryIn_eq_toNat, byte_sub_sub_carry_toNat, Bool.toNat_false, Nat.cast_zero, sub_zero]

/-- Settles O4: the old flag C, as a number, takes part in the difference and in both borrows. -/
theorem sbcAssignsDifferenceAndBorrows : Obligations.SbcAssignsDifferenceAndBorrows := by
  refine ⟨encodedAlu .sbc, fun x s => ?_⟩
  obtain ⟨t, hexec, ha, rest⟩ := exec_alu_assigns_zero (op := .sbc) x s rfl
  rw [carryIn_eq_toNat] at ha rest
  exact ⟨t, hexec, by rw [ha, byte_sub_sub_carry_toNat], rest⟩

/-- Settles O5: each result is its bitwise operation by definition. -/
theorem logicAssignsResultAndFlags : Obligations.LogicAssignsResultAndFlags :=
  ⟨encodedAlu .and, encodedAlu .xor, encodedAlu .or, fun x s =>
    ⟨exec_alu_assigns_zero x s rfl, exec_alu_assigns_zero x s rfl, exec_alu_assigns_zero x s rfl⟩⟩

/-- Settles O6: the flags are those of `sub8`, and A is assigned what it held. -/
theorem cpComparesAndKeepsA : Obligations.CpComparesAndKeepsA := by
  refine ⟨encodedAlu .cp, fun x s => ?_⟩
  obtain ⟨t, hexec, ha, hflags, honly⟩ := exec_alu_assigns (op := .cp) x s rfl
  have hz : (s.a - srcByte x s - 0#8 == 0#8) = decide (s.a = srcByte x s) := by
    rw [BitVec.sub_zero, byte_sub_beq_zero]
  exact ⟨t, hexec, hz ▸ hflags, honly.of_reg_eq ha⟩

/-- Settles O7: the operand plus one is written back where it was read. -/
theorem incAddsOneAndKeepsCarry : Obligations.IncAddsOneAndKeepsCarry := by
  refine ⟨encoded_incLoc, fun x s => ⟨_, exec_incLoc x s, ?_⟩⟩
  rw [State.incLoc_eq, inc8_eq]
  exact ⟨(rewrites_writeLoc s x _).setFlags _, flagsAre_setFlags ..⟩

/-- Settles O8: the operand minus one is written back where it was read. -/
theorem decSubtractsOneAndKeepsCarry : Obligations.DecSubtractsOneAndKeepsCarry := by
  refine ⟨encoded_decLoc, fun x s => ⟨_, exec_decLoc x s, ?_⟩⟩
  rw [State.decLoc_eq, dec8_eq]
  exact ⟨(rewrites_writeLoc s x _).setFlags _, flagsAre_setFlags ..⟩

/-- Settles O9: by the two branches of N. -/
theorem daaAdjustsAsThePseudocodeSays : Obligations.DaaAdjustsAsThePseudocodeSays := by
  refine ⟨⟨rfl, fun _ _ => rfl⟩, fun s hgk => ⟨s.daa, admitGK_true s _ _ hgk, ?_, ?_⟩⟩
  · split
    · next hn =>
      obtain ⟨hres, hflags⟩ := daa8_sub (old := s.flags) hn s.a
      refine ⟨hres, ?_⟩
      rw [State.daa, hflags]
      exact flagsAre_setFlags ..
    · next hn =>
      obtain ⟨hres, hflags⟩ := daa8_add (old := s.flags) (Bool.eq_false_of_not_eq_true hn) s.a
      refine ⟨hres, ?_⟩
      rw [State.daa, hflags]
      exact flagsAre_setFlags ..
  · exact ((OnlyRegisters.refl s).setReg .a _).setFlags _

/-- Settles O11: each flag is kept, a constant, or the complement of what it was; CPL alone writes A. -/
theorem cplScfCcfAssignTheirFlags : Obligations.CplScfCcfAssignTheirFlags := by
  refine ⟨⟨rfl, fun _ _ => rfl⟩, ⟨rfl, fun _ _ => rfl⟩, ⟨rfl, fun _ _ => rfl⟩, fun s hgk => ⟨?cpl, ?scf, ?ccf⟩⟩
  case cpl =>
    exact ⟨s.cpl, admitGK_true s _ _ hgk, BitVec.toNat_not, flagsAre_setFlags ..,
      ((OnlyRegisters.refl s).setReg .a _).setFlags _⟩
  case scf => exact ⟨s.scf, admitGK_true s _ _ hgk, flagsAre_setFlags .., (OnlyRegisters.refl s).setFlags _⟩
  case ccf => exact ⟨s.ccf, admitGK_true s _ _ hgk, flagsAre_setFlags .., (OnlyRegisters.refl s).setFlags _⟩
end

section
/-! PROOFS. 16-bit arithmetic (41_alu16.md): the rules of writing a pair, the encodings, and from them O13. -/

open Sys2Proof Sys2Proof.Machine Sys2Proof.Claim
namespace Sys2Proof.Machine

/-! ## Writing a pair -/

@[simp] theorem State.setPair_pair (s : State) (p : Pair) (w : Word) (p' : Pair) :
    (s.setPair p w).pair p' = if p' = p then w else s.pair p' := by
  cases p <;> cases p' <;> simp [State.pair, State.setPair]

@[simp] theorem State.setPair_a (s : State) (p : Pair) (w : Word) : (s.setPair p w).a = s.a := by cases p <;> rfl

/-- All that a write of a pair leaves unchanged. -/
theorem setPair_frame (s : State) (p : Pair) (w : Word) :
    (∀ p', p' ≠ p → (s.setPair p w).pair p' = s.pair p') ∧ (s.setPair p w).a = s.a ∧ (s.setPair p w).f = s.f ∧
    (s.setPair p w).pc = s.pc ∧ (s.setPair p w).mode = s.mode ∧ (s.setPair p w).ime = s.ime ∧
    (s.setPair p w).run = s.run ∧ (s.setPair p w).params = s.params ∧ Stores [] s (s.setPair p w) ∧
    Made [] s (s.setPair p w) := by
  obtain ⟨-, -, -, hmade⟩ := OnlyRegisters.refl s
  refine ⟨fun p' hp' => by rw [State.setPair_pair, if_neg hp'], ?_⟩
  simpa [Stores, Made] using hmade

/-! ## Encodings -/

theorem encoded_incPair (p : Pair) : Encoded .primary (opcode 0 (2 * pairCode p) 3) 0 fun _ _ => Instr.incPair p := by
  cases p <;> exact ⟨rfl, fun _ _ => rfl⟩

theorem encoded_decPair (p : Pair) : Encoded .primary (opcode 0 (2 * pairCode p + 1) 3) 0 fun _ _ => Instr.decPair p := by
  cases p <;> exact ⟨rfl, fun _ _ => rfl⟩

/-! ## Results as arithmetic -/

theorem incPair_toNat (s : State) (p : Pair) : ((s.incPair p).pair p).toNat = ((s.pair p).toNat + 1) % 65536 := by
  rw [State.incPair, State.setPair_pair, if_pos rfl]
  exact BitVec.toNat_add ..

theorem decPair_toNat (s : State) (p : Pair) : ((s.decPair p).pair p).toNat = ((s.pair p).toNat + 65535) % 65536 := by
  rw [State.decPair, State.setPair_pair, if_pos rfl, BitVec.toNat_sub, Nat.add_comm]
  rfl

end Sys2Proof.Machine

/-- Settles O13: each writes its pair and nothing else, so the frame is that of the write. -/
theorem incDecPairKeepFlags : Obligations.IncDecPairKeepFlags := by
  refine ⟨encoded_incPair, encoded_decPair, fun p s hgk => ⟨?inc, ?dec⟩⟩
  case inc =>
    exact ⟨s.incPair p, (exec_incPair p s).trans (admitGK_true s _ _ hgk), incPair_toNat s p, setPair_frame s p _⟩
  case dec =>
    exact ⟨s.decPair p, (exec_decPair p s).trans (admitGK_true s _ _ hgk), decPair_toNat s p, setPair_frame s p _⟩
end

section
/-! PROOFS. Rotates, shifts and SWAP (42_rotate_shift.md): the encodings, the results as arithmetic, and from them O16. -/

open Sys2Proof Sys2Proof.Machine Sys2Proof.Claim
namespace Sys2Proof.Machine

/-! ## Encodings -/

theorem encoded_rot (op : RotOp) (x : Loc8) :
    Encoded .extended (opcode 0 (rotCode op) (locCode x)) 0 fun _ _ => Instr.rot op x := by
  obtain (r | _) := x
  · cases op <;> cases r <;> exact ⟨rfl, fun _ _ => rfl⟩
  · cases op <;> exact ⟨rfl, fun _ _ => rfl⟩

/-! ## Results as arithmetic -/

/-- What enters in the `k` low bits that a shift to the left clears is added. -/
theorem shiftLeft_or_eq_ofNat {k : Nat} (x : Byte) {y : Byte} (hy : y.toNat < 2 ^ k) :
    x <<< k ||| y = BitVec.ofNat 8 (x.toNat * 2 ^ k + y.toNat) := by
  apply BitVec.eq_of_toNat_eq
  rw [BitVec.toNat_or, BitVec.toNat_shiftLeft, BitVec.toNat_ofNat, ← Nat.shiftLeft_eq,
    Nat.shiftLeft_add_eq_or_of_lt hy, Nat.or_mod_two_pow, Nat.mod_eq_of_lt y.isLt]

theorem byte_ushiftRight_toNat (v : Byte) (k : Nat) : (v >>> k).toNat = v.toNat / 2 ^ k := by
  rw [BitVec.toNat_ushiftRight, Nat.shiftRight_eq_div_pow]

theorem byteOf_carryIn_toNat (cin : Bool) : (byteOf (carryIn cin)).toNat = cin.toNat := by cases cin <;> rfl

/-- RLC (R190). -/
theorem rotate_rlc (v : Byte) (cin : Bool) :
    rotate .rlc v cin = (BitVec.ofNat 8 (v.toNat * 2 + v.toNat / 128), v.getLsbD 7) := by
  have hout : (v >>> 7).toNat = v.toNat / 128 := byte_ushiftRight_toNat v 7
  rw [rotate, shiftLeft_or_eq_ofNat v (by omega), hout, pow_one]

/-- RRC (R191): of `v * 128` the low bit of `v` stays in the byte. -/
theorem rotate_rrc (v : Byte) (cin : Bool) :
    rotate .rrc v cin = (BitVec.ofNat 8 (v.toNat / 2 + v.toNat % 2 * 128), v.getLsbD 0) := by
  have hrest : (v >>> 1).toNat = v.toNat / 2 := byte_ushiftRight_toNat v 1
  rw [rotate, BitVec.or_comm, shiftLeft_or_eq_ofNat v (by omega), hrest]
  congr 1
  bv_omega

/-- RL (R192). -/
theorem rotate_rl (v : Byte) (cin : Bool) :
    rotate .rl v cin = (BitVec.ofNat 8 (v.toNat * 2 + cin.toNat), v.getLsbD 7) := by
  have hin := byteOf_carryIn_toNat cin
  have hlt := cin.toNat_lt
  rw [rotate, shiftLeft_or_eq_ofNat v (by omega), hin, pow_one]

/-- RR (R193). -/
theorem rotate_rr (v : Byte) (cin : Bool) :
    rotate .rr v cin = (BitVec.ofNat 8 (v.toNat / 2 + cin.toNat * 128), v.getLsbD 0) := by
  have hrest : (v >>> 1).toNat = v.toNat / 2 := byte_ushiftRight_toNat v 1
  rw [rotate, BitVec.or_comm, shiftLeft_or_eq_ofNat _ (by omega), hrest, byteOf_carryIn_toNat, Nat.add_comm]
  rfl

/-! ## What the meanings do -/

/-- What every extended rotate and shift does (R198): the result is written back where the operand was read. -/
theorem rotatesTo_of_rotate (x : Loc8) (s : State) {op : RotOp} {n : Nat} {c : Bool}
    (hres : rotate op (locByte x s) (cf s) = (BitVec.ofNat 8 n, c)) : RotatesTo op x n c s := by
  have ht : s.rotateLoc op x = ((s.readLoc x).2.writeLoc x (BitVec.ofNat 8 n)).setFlags
      ⟨BitVec.ofNat 8 n == 0#8, false, false, c⟩ := by
    have hc : s.flags.c = cf s := rfl
    rw [State.rotateLoc, readLoc_eq_locByte, hc, rotate8, hres]
  rw [RotatesTo, exec_rot, ht]
  exact ⟨_, rfl, (rewrites_writeLoc s x _).setFlags _, flagsAre_setFlags ..⟩

end Sys2Proof.Machine

/-- Settles O16: the bit that enters fills the place the shift has cleared. -/
theorem rotates : Obligations.Rotates :=
  ⟨encoded_rot .rlc, encoded_rot .rrc, encoded_rot .rl, encoded_rot .rr, fun x s =>
    ⟨rotatesTo_of_rotate x s (rotate_rlc ..), rotatesTo_of_rotate x s (rotate_rrc ..),
      rotatesTo_of_rotate x s (rotate_rl ..), rotatesTo_of_rotate x s (rotate_rr ..)⟩⟩
end

section
/-! PROOFS. BIT, SET and RES (43_bit.md): the encodings, the results bit by bit, and from them O19 and O20. -/

open Sys2Proof Sys2Proof.Machine Sys2Proof.Claim
namespace Sys2Proof.Machine

/-! ## Encodings -/

theorem encoded_bit (b : BitNo) (x : Loc8) :
    Encoded .extended (opcode 1 (bitCode b) (locCode x)) 0 fun _ _ => Instr.bit b x := by
  obtain (r | _) := x
  · cases b <;> cases r <;> exact ⟨rfl, fun _ _ => rfl⟩
  · cases b <;> exact ⟨rfl, fun _ _ => rfl⟩

theorem encoded_res (b : BitNo) (x : Loc8) :
    Encoded .extended (opcode 2 (bitCode b) (locCode x)) 0 fun _ _ => Instr.res b x := by
  obtain (r | _) := x
  · cases b <;> cases r <;> exact ⟨rfl, fun _ _ => rfl⟩
  · cases b <;> exact ⟨rfl, fun _ _ => rfl⟩

theorem encoded_set (b : BitNo) (x : Loc8) :
    Encoded .extended (opcode 3 (bitCode b) (locCode x)) 0 fun _ _ => Instr.set b x := by
  obtain (r | _) := x
  · cases b <;> cases r <;> exact ⟨rfl, fun _ _ => rfl⟩
  · cases b <;> exact ⟨rfl, fun _ _ => rfl⟩

/-! ## Results bit by bit -/

theorem bitIndex_eq_bitCode (b : BitNo) : bitIndex b = bitCode b := by cases b <;> rfl

theorem bitCode_lt (b : BitNo) : bitCode b < 8 := by cases b <;> decide

/-- The flags of BIT, with the tested bit as arithmetic (R221). -/
theorem bitFlags_eq (b : BitNo) (v : Byte) (old : Flags) :
    bitFlags b v old = ⟨decide (v.toNat / 2 ^ bitCode b % 2 = 0), false, true, old.c⟩ := by
  have hz : (!v.getLsbD (bitCode b)) = decide (v.toNat / 2 ^ bitCode b % 2 = 0) := by
    rw [BitVec.getLsbD, Nat.testBit_eq_decide_div_mod_eq, ← decide_not, decide_eq_decide]
    exact Nat.mod_two_ne_one
  rw [bitFlags, bitIndex_eq_bitCode, hz]

/-- The mask holds the one bit it names (R223, R225). -/
theorem bitMask_getLsbD (b : BitNo) (k : Nat) : (bitMask b).getLsbD k = decide (bitCode b = k) := by
  rw [bitMask, bitIndex_eq_bitCode, ← BitVec.twoPow_eq, BitVec.getLsbD_twoPow, decide_eq_true (bitCode_lt b),
    Bool.true_and]

theorem setBit8_getLsbD_same (b : BitNo) (v : Byte) : (setBit8 b v).getLsbD (bitCode b) = true := by
  rw [setBit8, BitVec.getLsbD_or, bitMask_getLsbD, decide_eq_true rfl, Bool.or_true]

theorem setBit8_getLsbD_other (b : BitNo) (v : Byte) (k : Nat) (hk : k ≠ bitCode b) :
    (setBit8 b v).getLsbD k = v.getLsbD k := by
  rw [setBit8, BitVec.getLsbD_or, bitMask_getLsbD, decide_eq_false hk.symm, Bool.or_false]

theorem resBit8_getLsbD_same (b : BitNo) (v : Byte) : (resBit8 b v).getLsbD (bitCode b) = false := by
  rw [resBit8, BitVec.getLsbD_and, BitVec.getLsbD_not, bitMask_getLsbD, decide_eq_true rfl, Bool.not_true,
    Bool.and_false, Bool.and_false]

/-- The complement of the mask is cut to the width of a byte, past which no bit of `v` is set. -/
theorem resBit8_getLsbD_other (b : BitNo) (v : Byte) (k : Nat) (hk : k ≠ bitCode b) :
    (resBit8 b v).getLsbD k = v.getLsbD k := by
  rw [resBit8, BitVec.getLsbD_and, BitVec.getLsbD_not, bitMask_getLsbD, decide_eq_false hk.symm, Bool.not_false,
    Bool.and_true, Bool.and_eq_left_iff_imp]
  exact fun hv => decide_eq_true (BitVec.lt_of_getLsbD hv)

/-! ## What the meanings do -/

theorem State.bitTest_eq (s : State) (b : BitNo) (x : Loc8) :
    s.bitTest b x = (s.readLoc x).2.setFlags
      ⟨decide ((locByte x s).toNat / 2 ^ bitCode b % 2 = 0), false, true, cf s⟩ := by
  rw [State.bitTest, readLoc_eq_locByte, bitFlags_eq]
  rfl

theorem rewrites_setBit (s : State) (b : BitNo) (x : Loc8) :
    Rewrites x (setBit8 b (locByte x s)) s (s.setBit b x) := by
  rw [State.setBit, readLoc_eq_locByte]
  exact rewrites_writeLoc s x _

theorem rewrites_resBit (s : State) (b : BitNo) (x : Loc8) :
    Rewrites x (resBit8 b (locByte x s)) s (s.resBit b x) := by
  rw [State.resBit, readLoc_eq_locByte]
  exact rewrites_writeLoc s x _

end Sys2Proof.Machine

/-- Settles O19: the operand is read, and F alone is assigned. -/
theorem bitTestsOneBit : Obligations.BitTestsOneBit := by
  refine ⟨encoded_bit, fun b x s => ⟨_, exec_bit b x s, ?_⟩⟩
  rw [State.bitTest_eq]
  exact ⟨flagsAre_setFlags .., (OnlyRegisters.readLoc s x).setFlags _⟩

/-- Settles O20: the operand is written back with the bit of the mask added or taken away. -/
theorem setAndResChangeOneBit : Obligations.SetAndResChangeOneBit := by
  refine ⟨encoded_set, encoded_res, fun b x s => ⟨?set, ?res⟩⟩
  case set =>
    exact ⟨s.setBit b x, setBit8 b (locByte x s), exec_set b x s, rewrites_setBit s b x, State.setBit_f s b x,
      setBit8_getLsbD_same b _, setBit8_getLsbD_other b _⟩
  case res =>
    exact ⟨s.resBit b x, resBit8 b (locByte x s), exec_res b x s, rewrites_resBit s b x, State.resBit_f s b x,
      resBit8_getLsbD_same b _, resBit8_getLsbD_other b _⟩
end

section
/-! PROOFS. 8-bit loads and stores (44_load8.md): the encodings, the two operations `loadReg` and `memWrite` with their
frames, the write-back of HL, and from them O21, O22, O23 and O24. -/

open Sys2Proof Sys2Proof.Machine Sys2Proof.Claim
namespace Sys2Proof.Machine

/-! ## Encodings -/

theorem encoded_ldReg (r r' : Reg8) :
    Encoded .primary (opcode 1 (regCode r) (regCode r')) 0 fun _ _ => Instr.ldReg r r' := by
  cases r <;> cases r' <;> exact ⟨rfl, fun _ _ => rfl⟩

theorem encoded_ldImm (r : Reg8) : Encoded .primary (opcode 0 (regCode r) 6) 1 fun n _ => Instr.ldImm r n := by
  cases r <;> exact ⟨rfl, fun _ _ => rfl⟩

theorem encoded_ldFromHL (r : Reg8) : Encoded .primary (opcode 1 (regCode r) 6) 0 fun _ _ => Instr.ldFromHL r := by
  cases r <;> exact ⟨rfl, fun _ _ => rfl⟩

theorem encoded_ldToHL (r : Reg8) : Encoded .primary (opcode 1 6 (regCode r)) 0 fun _ _ => Instr.ldToHL r := by
  cases r <;> exact ⟨rfl, fun _ _ => rfl⟩

/-! ## Addresses and the halves of HL -/

/-- The high-page address as a sum of numbers (R240). -/
theorem highPage_eq_ofNat (n : Byte) : highPage n = BitVec.ofNat 16 (0xFF00 + n.toNat) := by
  rw [highPage, BitVec.ofNat_add, BitVec.ofNat_toNat]

theorem State.setPair_hl_reg_other (s : State) (w : Word) {r : Reg8} (hr : r ∉ [Reg8.h, Reg8.l]) :
    (s.setPair .hl w).reg r = s.reg r := by
  cases r <;> simp at hr ⊢

end Sys2Proof.Machine

namespace Sys2Proof.Claim

/-! ## What the operations do -/

variable {changed : List Reg8} {calls : List Access} {s t : State} {i : Instr} {addr : Word}

/-- Writing HL back adds its two halves to the registers that may have changed. -/
theorem Keeps.setHL (h : Keeps changed s t) (w : Word) : Keeps (changed ++ [.h, .l]) s (t.setPair .hl w) := by
  obtain ⟨hreg, hcontrol⟩ := h
  refine ⟨fun r hr => ?_, hcontrol⟩
  obtain ⟨hr, hhl⟩ := not_or.1 (mt List.mem_append.2 hr)
  rw [State.setPair_hl_reg_other t w hhl, hreg r hr]

theorem OnlyRegisters.setHL (h : OnlyRegisters changed calls s t) (w : Word) :
    OnlyRegisters (changed ++ [.h, .l]) calls s (t.setPair .hl w) := by
  obtain ⟨hkeeps, rest⟩ := h
  exact ⟨hkeeps.setHL w, rest⟩

theorem OnlyRegisters.loadReg (s : State) (r : Reg8) (a : Word) :
    OnlyRegisters [r] [.read a (s.upcoming 0 a)] s (s.loadReg r a) :=
  (OnlyRegisters.afterRead s a).setReg r _

theorem made_memWrite (s : State) (a : Word) (v : Byte) : Made [.write a v] s (s.memWrite a v) := by
  refine ⟨rfl, ?_⟩
  cases s.params.memory <;> rfl

theorem keeps_memWrite (s : State) (a : Word) (v : Byte) : Keeps [] s (s.memWrite a v) :=
  ⟨fun r _ => s.memWrite_reg a v r, rfl, rfl, rfl, rfl⟩

theorem loadsA_of_exec (h : exec i s = .next (s.loadReg .a addr)) : LoadsA i addr s :=
  ⟨_, h, rfl, s.loadReg_f .a addr, .loadReg s .a addr⟩

theorem storesOne_of_exec {v : Byte} (h : exec i s = .next (s.memWrite addr v)) : StoresOne i addr v s :=
  ⟨_, h, stores_memWrite s addr v, made_memWrite s addr v, rfl, keeps_memWrite s addr v, rfl, rfl⟩

/-- A load of A at HL that then writes HL back (R247, R249). -/
theorem loadA_setHL_effect (s : State) (w : Word) :
    ((s.loadReg .a s.hl).setPair .hl w).a = s.upcoming 0 s.hl ∧ ((s.loadReg .a s.hl).setPair .hl w).f = s.f ∧
    OnlyRegisters [.a, .h, .l] [.read s.hl (s.upcoming 0 s.hl)] s ((s.loadReg .a s.hl).setPair .hl w) :=
  ⟨rfl, rfl, (OnlyRegisters.loadReg s .a s.hl).setHL w⟩

/-- A store of A at HL that then writes HL back (R246, R248). -/
theorem storeA_setHL_effect (s : State) (w : Word) :
    Stores [(s.hl, s.a)] s ((s.storeA s.hl).setPair .hl w) ∧
    Made [.write s.hl s.a] s ((s.storeA s.hl).setPair .hl w) ∧ ((s.storeA s.hl).setPair .hl w).f = s.f ∧
    Keeps [.h, .l] s ((s.storeA s.hl).setPair .hl w) ∧ KeepsPointers s ((s.storeA s.hl).setPair .hl w) :=
  ⟨stores_memWrite s s.hl s.a, made_memWrite s s.hl s.a, rfl, (keeps_memWrite s s.hl s.a).setHL w, rfl, rfl⟩

end Sys2Proof.Claim

/-- Settles O21: each writes its register last, after the read at the old HL if it makes one. -/
theorem registerLoads : Obligations.RegisterLoads := by
  refine ⟨encoded_ldReg, encoded_ldImm, encoded_ldFromHL, fun r s => ⟨fun r' => ?reg, fun n => ?imm, ?fromHL⟩⟩
  case reg =>
    exact ⟨_, exec_ldReg r r' s, s.setReg_same r _, s.setReg_f r _, (OnlyRegisters.refl s).setReg r _⟩
  case imm =>
    exact ⟨_, exec_ldImm r n s, s.setReg_same r n, s.setReg_f r n, (OnlyRegisters.refl s).setReg r n⟩
  case fromHL =>
    exact ⟨_, exec_ldFromHL r s, (s.afterRead s.hl).setReg_same r _, s.loadReg_f r s.hl, .loadReg s r s.hl⟩

/-- Settles O22: each is one write at HL. -/
theorem storesAtHl : Obligations.StoresAtHl :=
  ⟨encoded_ldToHL, ⟨rfl, fun _ _ => rfl⟩, fun s =>
    ⟨fun r => storesOne_of_exec (exec_ldToHL r s), fun n => storesOne_of_exec (exec_ld_atHL_n n s)⟩⟩

/-- Settles O23: each is one load or one store of A, at the address its rule forms. -/
theorem accumulatorLoadsAndStores : Obligations.AccumulatorLoadsAndStores := by
  refine ⟨⟨rfl, fun _ _ => rfl⟩, ⟨rfl, fun _ _ => rfl⟩, ⟨rfl, fun _ _ => rfl⟩, ⟨rfl, fun _ _ => rfl⟩,
    ⟨rfl, fun _ _ => rfl⟩, ⟨rfl, fun _ _ => rfl⟩, ⟨rfl, fun _ _ => rfl⟩, ⟨rfl, fun _ _ => rfl⟩,
    ⟨rfl, fun _ _ => rfl⟩, ⟨rfl, fun _ _ => rfl⟩, fun s => ?_⟩
  simp only [← highPage_eq_ofNat]
  exact ⟨loadsA_of_exec (exec_ld_A_atBC s), loadsA_of_exec (exec_ld_A_atDE s),
    fun n => loadsA_of_exec (exec_ldh_A_atN n s), loadsA_of_exec (exec_ld_A_atC s),
    fun nn => loadsA_of_exec (exec_ld_A_atNN nn s),
    storesOne_of_exec (exec_ld_atBC_A s), storesOne_of_exec (exec_ld_atDE_A s),
    fun n => storesOne_of_exec (exec_ldh_atN_A n s), storesOne_of_exec (exec_ld_atC_A s),
    fun nn => storesOne_of_exec (exec_ld_atNN_A nn s)⟩

/-- Settles O24: the access leaves HL as it was, so the write-back is that of INC HL or DEC HL in the state after it. -/
theorem postIncrementAndDecrement : Obligations.PostIncrementAndDecrement := by
  refine ⟨⟨rfl, fun _ _ => rfl⟩, ⟨rfl, fun _ _ => rfl⟩, ⟨rfl, fun _ _ => rfl⟩, ⟨rfl, fun _ _ => rfl⟩,
    fun s => ⟨?storeInc, ?loadInc, ?storeDec, ?loadDec⟩⟩
  case storeInc =>
    exact ⟨_, exec_ld_atHLinc_A s, incPair_toNat (s.storeA s.hl) .hl, storeA_setHL_effect s _⟩
  case loadInc =>
    exact ⟨_, exec_ld_A_atHLinc s, incPair_toNat (s.loadReg .a s.hl) .hl, loadA_setHL_effect s _⟩
  case storeDec =>
    exact ⟨_, exec_ld_atHLdec_A s, decPair_toNat (s.storeA s.hl) .hl, storeA_setHL_effect s _⟩
  case loadDec =>
    exact ⟨_, exec_ld_A_atHLdec s, decPair_toNat (s.loadReg .a s.hl) .hl, loadA_setHL_effect s _⟩
end

section
/-! PROOFS. Stack, jumps, calls, returns (46_stack_control.md): the encodings, what a push, a pop, a call and a return do,
the word a push leaves on top of the stack, and from them O26, O28, O30, O31, O32 and O33. -/

open Sys2Proof Sys2Proof.Machine Sys2Proof.Claim
namespace Sys2Proof.Machine

/-! ## Encodings -/

theorem encoded_push (q : StackPair) :
    Encoded .primary (opcode 3 (2 * stackPairCode q) 5) 0 fun _ _ => Instr.push q := by
  cases q <;> exact ⟨rfl, fun _ _ => rfl⟩

theorem encoded_jpIf (cc : Cond) :
    Encoded .primary (opcode 3 (condCode cc) 2) 2 fun lo hi => Instr.jpIf cc (wordOf hi lo) := by
  cases cc <;> exact ⟨rfl, fun _ _ => rfl⟩

theorem encoded_callIf (cc : Cond) :
    Encoded .primary (opcode 3 (condCode cc) 4) 2 fun lo hi => Instr.callIf cc (wordOf hi lo) := by
  cases cc <;> exact ⟨rfl, fun _ _ => rfl⟩

theorem encoded_retIf (cc : Cond) : Encoded .primary (opcode 3 (condCode cc) 0) 0 fun _ _ => Instr.retIf cc := by
  cases cc <;> exact ⟨rfl, fun _ _ => rfl⟩

theorem encoded_rst (v : RstVec) : Encoded .primary (opcode 3 (rstCode v) 7) 0 fun _ _ => Instr.rst v := by
  cases v <;> exact ⟨rfl, fun _ _ => rfl⟩

/-- The target of RST is eight times its field `y` (R98). -/
theorem rstTarget_eq_ofNat (v : RstVec) : rstTarget v = BitVec.ofNat 16 (8 * rstCode v) := by cases v <;> rfl

/-! ## Conditional forms (R297, R308) -/

theorem State.holds_eq_condTrue (s : State) (cc : Cond) : s.holds cc = condTrue cc s := by cases cc <;> rfl

theorem State.whenHolds_eq_ite (s t : State) (cc : Cond) : s.whenHolds cc t = if condTrue cc s then t else s := by
  rw [State.whenHolds, State.holds_eq_condTrue]

theorem next_whenHolds (s t : State) (cc : Cond) :
    (.next (s.whenHolds cc t) : Result) = if condTrue cc s then .next t else .next s := by
  rw [State.whenHolds_eq_ite]
  split <;> rfl

/-- A conditional form has the effect of the unconditional one, or none. -/
theorem whenHolds_effect {P : State → Prop} {s t : State} (cc : Cond) (ht : P t) :
    if condTrue cc s then P (s.whenHolds cc t) else s.whenHolds cc t = s := by
  rw [State.whenHolds_eq_ite]
  split
  · exact ht
  · rfl

/-! ## Pops and the pairs of the stack -/

/-- POP assigns the word on top of the stack to its pair (R295). -/
theorem State.pop_eq_setStackPair (s : State) (q : StackPair) : s.pop q = s.pop16.2.setStackPair q (topWord s) := by
  rw [State.pop, State.pop16_value]
  rfl

/-- RET jumps to the word on top of the stack (R304). -/
theorem State.ret_eq_jump (s : State) : s.ret = s.pop16.2.jump (topWord s) := by
  rw [State.ret, State.pop16_value]
  rfl

theorem State.pop16_f (s : State) : s.pop16.2.f = s.f := by rw [State.pop16_state]; rfl
theorem State.pop16_pc (s : State) : s.pop16.2.pc = s.pc := by rw [State.pop16_state]; rfl
theorem State.pop16_reg (s : State) (r : Reg8) : s.pop16.2.reg r = s.reg r := by simp

/-- A pair written with what it held in a state with the same registers: every register is as it was there. -/
theorem setStackPair_stackPair_reg {s t : State} (h : ∀ r, t.reg r = s.reg r) (q : StackPair) (r : Reg8) :
    (t.setStackPair q (s.stackPair q)).reg r = s.reg r := by
  cases q <;> cases r <;> simp [State.stackPair, State.pair, h, State.a_eq_reg, State.b_eq_reg, State.c_eq_reg,
    State.d_eq_reg, State.e_eq_reg, State.h_eq_reg, State.l_eq_reg]

/-- A byte whose low nibble is zero keeps its value under the mask of F (R23). -/
theorem and_high_of_low_zero {v : Byte} (h : v &&& 0x0F#8 = 0#8) : v &&& 0xF0#8 = v := by
  calc v &&& 0xF0#8 = (v &&& 0xF0#8) ||| (v &&& 0x0F#8) := by rw [h, BitVec.or_zero]
    _ = v &&& (0xF0#8 ||| 0x0F#8) := BitVec.and_or_distrib_left.symm
    _ = v := BitVec.and_allOnes

end Sys2Proof.Machine

namespace Sys2Proof.Claim

/-! ## What the operations do -/

variable {s t u : State} {w : Word}

theorem keeps_push16 (s : State) (w : Word) : Keeps [] s (s.push16 w) :=
  ⟨fun r _ => s.push16_reg w r, rfl, rfl, rfl, rfl⟩

/-- A pop makes its two reads and moves `sp` (R293). -/
theorem popped_pop16 (s : State) : Popped s s.pop16.2 := by
  rw [State.pop16_state]
  refine ⟨rfl, ⟨fun _ _ => rfl, by simp⟩, by simp [popReads], ?_⟩
  cases h : s.params.memory with
  | ram => simp [State.afterRead, h]
  | oracle => simp [State.afterRead, h, popReads, List.filter, isRead]

theorem keeps_pop16 (s : State) : Keeps [] s s.pop16.2 := by
  refine ⟨fun r _ => s.pop16_reg r, ?_⟩
  rw [State.pop16_state]
  exact ⟨rfl, rfl, rfl, rfl⟩

theorem Keeps.jump {changed : List Reg8} (h : Keeps changed s t) (target : Word) : Keeps changed s (t.jump target) := by
  obtain ⟨hreg, hcontrol⟩ := h
  exact ⟨fun r hr => by rw [State.jump_reg, hreg r hr], hcontrol⟩

theorem Popped.jump (h : Popped s t) (target : Word) : Popped s (t.jump target) := h

theorem calls_call (s : State) (target : Word) : Calls target s (s.call target) :=
  ⟨rfl, pushed_push16 s s.pc, keeps_push16 s s.pc, rfl⟩

theorem returns_ret (s : State) : Returns s s.ret := by
  rw [State.ret_eq_jump]
  exact ⟨rfl, (popped_pop16 s).jump _, (keeps_pop16 s).jump _, s.pop16_f⟩

/-! ## A push, then a pop (R309) -/

/-- In plain RAM the word on top of the stack after a push is the word pushed. -/
theorem topWord_of_pushed (hpush : Pushed w s t) (hparams : t.params = s.params) (hram : s.params.memory = .ram)
    (hwf : s.mem.wf) : topWord t = w := by
  obtain ⟨hsp, ⟨-, hcells⟩, -⟩ := hpush
  have htram : t.params.memory = .ram := by rw [hparams, hram]
  have hhi : t.byteAt (s.sp - 1#16) = hiByte w := hcells hwf (s.sp - 1#16, hiByte w) (by simp)
  have hlo : t.byteAt (s.sp - 2#16) = loByte w := hcells hwf (s.sp - 2#16, loByte w) (by simp)
  have hnext : s.sp - 2#16 + 1#16 = s.sp - 1#16 := by bv_omega
  rw [topWord, t.upcoming_ram htram, t.upcoming_ram htram, hsp, hnext, hhi, hlo, wordOf_bytes]

theorem sp_of_pushed_popped (hpush : Pushed w s t) (hpop : Popped t u) : u.sp = s.sp := by
  obtain ⟨hsp, -⟩ := hpush
  obtain ⟨hsp', -⟩ := hpop
  rw [hsp', hsp, BitVec.sub_add_cancel]

/-- A return straight after a push, in plain RAM: `pc` is the word pushed, and `sp` is back. -/
theorem ret_of_pushed (hpush : Pushed w s t) (hparams : t.params = s.params) (hram : s.params.memory = .ram)
    (hwf : s.mem.wf) : t.ret.pc = w ∧ t.ret.sp = s.sp := by
  obtain ⟨hpc, hpop, -⟩ := returns_ret t
  exact ⟨hpc.trans (topWord_of_pushed hpush hparams hram hwf), sp_of_pushed_popped hpush hpop⟩

/-- A POP straight after a PUSH, in plain RAM: the pair popped is assigned the pair pushed, and `sp` is back. -/
theorem pop_of_push (hram : s.params.memory = .ram) (hwf : s.mem.wf) (q q' : StackPair) :
    (s.push q).pop q' = (s.push q).pop16.2.setStackPair q' (s.stackPair q) ∧ ((s.push q).pop q').sp = s.sp := by
  have hpush := pushed_push16 s (s.stackPair q)
  refine ⟨?_, ?_⟩
  · rw [State.pop_eq_setStackPair, State.push, topWord_of_pushed hpush (s.push16_params _) hram hwf]
  · rw [State.pop, State.setStackPair_sp]
    exact sp_of_pushed_popped hpush (popped_pop16 _)

/-- PUSH and POP of one pair, in plain RAM with F[3:0] zero. -/
theorem pop_push_restores (hram : s.params.memory = .ram) (hwf : s.mem.wf) (hf : s.f &&& 0x0F#8 = 0#8) (q : StackPair) :
    (∀ r, ((s.push q).pop q).reg r = s.reg r) ∧ ((s.push q).pop q).f = s.f ∧ ((s.push q).pop q).sp = s.sp ∧
    ((s.push q).pop q).pc = s.pc := by
  obtain ⟨heq, hsp⟩ := pop_of_push hram hwf q q
  refine ⟨fun r => ?reg, ?f, hsp, ?pc⟩
  case reg =>
    rw [heq]
    exact setStackPair_stackPair_reg (fun r => ((s.push q).pop16_reg r).trans (s.push16_reg _ r)) q r
  case f =>
    rw [heq, State.setStackPair_f]
    split
    · next hq => rw [hq, State.stackPair, loByte_wordOf, and_high_of_low_zero hf]
    · rw [State.pop16_f, State.push, State.push16_f]
  case pc =>
    rw [heq, State.setStackPair_pc, State.pop16_pc, State.push, State.push16_pc]

end Sys2Proof.Claim

/-- Settles O26: the pair's word is pushed. -/
theorem pushWritesHighThenLow : Obligations.PushWritesHighThenLow := by
  refine ⟨encoded_push, fun q s => ⟨s.push q, exec_push q s, ?_, s.push16_pc _, s.push16_f _, keeps_push16 s _⟩⟩
  cases q <;> exact pushed_push16 s _

/-- Settles O28: each is a jump, the conditional one when its condition holds. -/
theorem jumpsAssignPc : Obligations.JumpsAssignPc := by
  refine ⟨⟨rfl, fun _ _ => rfl⟩, ⟨rfl, fun _ _ => rfl⟩, encoded_jpIf, fun s =>
    ⟨fun nn => exec_jp_nn nn s, exec_jp_atHL s, fun cc nn => ?_⟩⟩
  rw [exec_jpIf, State.whenHolds_eq_ite]
  rfl

/-- Settles O30: all four conditional forms are `whenHolds` of the unconditional one. -/
theorem conditionalsTestOneFlag : Obligations.ConditionalsTestOneFlag := fun cc s nn e =>
  ⟨(exec_jpIf cc nn s).trans (next_whenHolds s _ cc), (exec_jrIf cc e s).trans (next_whenHolds s _ cc),
    (exec_callIf cc nn s).trans (next_whenHolds s _ cc), (exec_retIf cc s).trans (next_whenHolds s _ cc)⟩

/-- Settles O31: CALL is a push of `pc` and a jump, and the two other forms are that call. -/
theorem callsPushTheReturnAddress : Obligations.CallsPushTheReturnAddress := by
  refine ⟨⟨rfl, fun _ _ => rfl⟩, encoded_callIf, encoded_rst, fun s =>
    ⟨fun nn => ?call, fun cc nn => ?callIf, fun v => ?rst⟩⟩
  case call => exact ⟨s.call nn, exec_call_nn nn s, calls_call s nn⟩
  case callIf => exact ⟨s.whenHolds cc (s.call nn), exec_callIf cc nn s, whenHolds_effect cc (calls_call s nn)⟩
  case rst =>
    rw [← rstTarget_eq_ofNat]
    exact ⟨s.call (rstTarget v), exec_rst v s, calls_call s _⟩

/-- Settles O32: RET is a pop and a jump, the two other forms are that return, and a call pushes what it pops. -/
theorem returnsPopPc : Obligations.ReturnsPopPc := by
  refine ⟨⟨rfl, fun _ _ => rfl⟩, ⟨rfl, fun _ _ => rfl⟩, encoded_retIf, fun s =>
    ⟨?ret, ?reti, fun cc => ?retIf, fun nn hram hwf => ?roundTrip⟩⟩
  case ret => exact ⟨s.ret, exec_ret s, returns_ret s⟩
  case reti => exact ⟨s.ret, exec_reti s, returns_ret s⟩
  case retIf => exact ⟨s.whenHolds cc s.ret, exec_retIf cc s, whenHolds_effect cc (returns_ret s)⟩
  case roundTrip =>
    obtain ⟨-, hpush, -⟩ := calls_call s nn
    obtain ⟨hpc, -⟩ := ret_of_pushed hpush rfl hram hwf
    exact ⟨s.call nn, (s.call nn).ret, exec_call_nn nn s, exec_ret _, hpc⟩

/-- Settles O33: in plain RAM a pop finds the word pushed, whatever instruction pops it. -/
theorem stackRoundTrips : Obligations.StackRoundTrips := by
  refine fun s hram hwf hf => ⟨fun q => ?same, ?copy, fun nn => ?callRet, ?pushRet⟩
  case same => exact ⟨s.push q, (s.push q).pop q, exec_push q s, exec_pop q _, pop_push_restores hram hwf hf q⟩
  case copy =>
    obtain ⟨heq, hsp⟩ := pop_of_push hram hwf .bc .de
    refine ⟨s.push .bc, (s.push .bc).pop .de, exec_push .bc s, exec_pop .de _, ?d, ?e, hsp⟩
    case d => rw [heq]; exact hiByte_wordOf s.b s.c
    case e => rw [heq]; exact loByte_wordOf s.b s.c
  case callRet =>
    obtain ⟨hpc, hpush, -⟩ := calls_call s nn
    exact ⟨s.call nn, (s.call nn).ret, exec_call_nn nn s, hpc, exec_ret _, ret_of_pushed hpush rfl hram hwf⟩
  case pushRet =>
    exact ⟨s.push .bc, (s.push .bc).ret, exec_push .bc s, exec_ret _,
      ret_of_pushed (pushed_push16 s (s.stackPair .bc)) rfl hram hwf⟩
end

section
/-! PROOFS. How an instruction, and so a step, can end: a next state, the decode error, or a refusal of R105 (O42). -/

open Sys2Proof Sys2Proof.Machine Sys2Proof.Claim
namespace Sys2Proof.Machine

/-! ## How an instruction ends -/

/-- The codes of the sixteen instructions that `ADMIT_GK` = false refuses (R105). -/
def excludedCodes : List (DecodeMode × Byte) := generalKnowledgeBytes.map (DecodeMode.primary, ·)

/-- What `exec` can answer: a next state, for R105's sixteen what `admitGK` answers, and for an unmapped byte the decode
error. -/
inductive Ending (s : State) (i : Instr) : Prop where
  | completes {t : State} (answer : exec i s = .next t)
  | excluded {m : String} {t : State} (answer : exec i s = admitGK m s t) (code_mem : i.code ∈ excludedCodes)
  | decodeError {op : Byte} (instr : i = .unmapped op)

theorem incPair_code_mem_excludedCodes (p : Pair) : (Instr.incPair p).code ∈ excludedCodes := by cases p <;> decide

theorem decPair_code_mem_excludedCodes (p : Pair) : (Instr.decPair p).code ∈ excludedCodes := by cases p <;> decide

theorem exec_ending (i : Instr) (s : State) : Ending s i := by
  induction i using Instr.by_family with
  | alu op x => exact .completes (exec_alu op x s)
  | incLoc x => exact .completes (exec_incLoc x s)
  | decLoc x => exact .completes (exec_decLoc x s)
  | ldReg r r' => exact .completes (exec_ldReg r r' s)
  | ldImm r n => exact .completes (exec_ldImm r n s)
  | ldFromHL r => exact .completes (exec_ldFromHL r s)
  | ldToHL r => exact .completes (exec_ldToHL r s)
  | ldPair p nn => exact .completes (exec_ldPair p nn s)
  | addHL p => exact .completes (exec_addHL p s)
  | incPair p => exact .excluded (exec_incPair p s) (incPair_code_mem_excludedCodes p)
  | decPair p => exact .excluded (exec_decPair p s) (decPair_code_mem_excludedCodes p)
  | push q => exact .completes (exec_push q s)
  | pop q => exact .completes (exec_pop q s)
  | jpIf cc nn => exact .completes (exec_jpIf cc nn s)
  | jrIf cc e => exact .completes (exec_jrIf cc e s)
  | callIf cc nn => exact .completes (exec_callIf cc nn s)
  | retIf cc => exact .completes (exec_retIf cc s)
  | rst v => exact .completes (exec_rst v s)
  | rot op x => exact .completes (exec_rot op x s)
  | bit n x => exact .completes (exec_bit n x s)
  | res n x => exact .completes (exec_res n x s)
  | set n x => exact .completes (exec_set n x s)
  | nop | stop | halt | daa | cpl | scf | ccf | add_SP_e => exact .excluded rfl (List.mem_map_of_mem (by decide))
  | unmapped op => exact .decodeError rfl
  | _ => exact .completes rfl

/-- Each of R105's sixteen bytes is an instruction that `admitGK` decides on, whatever its operand bytes. -/
theorem exec_decodeOp_of_mem_generalKnowledgeBytes {op : Byte} (h : op ∈ generalKnowledgeBytes) (lo hi : Byte) (s : State) :
    ∃ m t, exec (decodeOp .primary op lo hi) s = admitGK m s t := by
  unfold generalKnowledgeBytes at h
  fin_cases h <;> exact ⟨_, _, rfl⟩

theorem admitGK_ne_notModelled (name m : String) (s t : State) : admitGK name s t ≠ .refused (.notModelled m) := by
  unfold admitGK
  split <;> simp

theorem raiseUnimplemented_ne_refused (op : Byte) (s : State) (x : Refusal) : raiseUnimplemented op s ≠ .refused x := by
  unfold raiseUnimplemented
  split <;> simp

theorem exec_ne_notModelled (i : Instr) (s : State) (m : String) : exec i s ≠ .refused (.notModelled m) := by
  cases exec_ending i s with
  | completes answer => simp [answer]
  | excluded answer code_mem => rw [answer]; exact admitGK_ne_notModelled _ m s _
  | decodeError instr => rw [instr, exec_unmapped]; exact raiseUnimplemented_ne_refused _ s _

/-! ## How a step ends -/

/-- A running core's step runs the map's entry at the byte fetched, with some operand bytes. -/
theorem step_eq_exec_decodeOp {s : State} (hrun : s.run = .running) :
    ∃ lo hi, step s = exec (decodeOp s.mode (nextOp s) lo hi) (fetched s (1 + operandCount s.mode (nextOp s))) := by
  rw [step_eq_exec_fetched hrun, State.fetchInstr_instr]
  exact ⟨_, _, rfl⟩

/-- A running core's step stops for the two reasons only: the decode error under a policy other than `Skip`, and a refusal
of R105. -/
theorem step_next_iff {s : State} (hrun : s.run = .running) :
    (∃ t, step s = .next t) ↔
      ¬ (s.mode = .primary ∧
        ((nextOp s ∈ unmappedBytes ∧ s.params.unimplPolicy ≠ .skip) ∨
          (nextOp s ∈ generalKnowledgeBytes ∧ s.params.admitGK = false))) := by
  obtain ⟨lo, hi, hstep⟩ := step_eq_exec_decodeOp hrun
  rw [hstep]
  constructor
  · rintro ⟨t, ht⟩ ⟨hmode, ⟨hop, hpolicy⟩ | ⟨hop, hgk⟩⟩
    · rw [hmode, decodeOp_of_mem_unmappedBytes hop, exec_unmapped] at ht
      exact hpolicy (raiseUnimplemented_next ht).1
    · rw [hmode] at ht
      obtain ⟨m, u, hu⟩ := exec_decodeOp_of_mem_generalKnowledgeBytes hop lo hi _
      rw [hu] at ht
      exact Bool.false_ne_true (hgk.symm.trans (admitGK_next ht).1)
  · intro hno
    cases exec_ending (decodeOp s.mode (nextOp s) lo hi) (fetched s (1 + operandCount s.mode (nextOp s))) with
    | completes answer => exact ⟨_, answer⟩
    | excluded answer code_mem =>
      rw [decodeOp_code] at code_mem
      obtain ⟨op, hop, hcode⟩ := List.mem_map.1 code_mem
      obtain ⟨hmode, rfl⟩ := Prod.mk.inj hcode
      have hgk : s.params.admitGK = true := by
        by_contra hgk
        exact hno ⟨hmode.symm, .inr ⟨hop, Bool.eq_false_of_not_eq_true hgk⟩⟩
      exact ⟨_, answer.trans (admitGK_true _ _ _ hgk)⟩
    | decodeError instr =>
      obtain ⟨hmode, hop⟩ := (decodeOp_eq_unmapped_iff ..).1 ⟨_, instr⟩
      have hskip : s.params.unimplPolicy = .skip := by
        by_contra hpolicy
        exact hno ⟨hmode, .inl ⟨hop, hpolicy⟩⟩
      rw [instr, exec_unmapped]
      exact ⟨_, raiseUnimplemented_skip _ _ hskip⟩

end Sys2Proof.Machine

/-- Settles O42: an idle step is a next state, and a running core's step ends as its instruction does. -/
theorem onlyTheDecodeErrorStopsAStep : Obligations.OnlyTheDecodeErrorStopsAStep := by
  intro s
  by_cases hrun : s.run = .running
  · refine ⟨by simpa [hrun] using step_next_iff hrun, fun m => ?_⟩
    rw [step_running s hrun]
    exact exec_ne_notModelled _ _ m
  · simp [step_idle s hrun, hrun]
end

section
/-! PROOFS. The decoder against the encoder: an instruction has the mode and the byte it was decoded from as its code and the
bytes after that as its operand bytes, and these give it back; from it O56, O57 and O59. -/

open Sys2Proof Sys2Proof.Machine Sys2Proof.Claim
namespace Sys2Proof

/-! ## An instruction, its code and its operand bytes -/

theorem Instr.code_eq (i : Instr) : i.code = (i.table, i.opcode) := rfl

/-- The length table agrees with the encoder (R101, R103). -/
theorem operandCount_eq_operands_length {i : Instr} (h : i.wellFormed = true) :
    operandCount i.table i.opcode = i.operands.length := by
  cases i with
  | unmapped op => exact Laws.Length.unmapped op h
  | _ => rfl

theorem byte_eq_iff_prefix (n lo hi : Byte) : lo = n ↔ [n] <+: [lo, hi] := by
  simp [List.cons_prefix_cons, eq_comm]

/-- The operand bytes of a word stand low byte first (R91). -/
theorem wordOf_eq_iff_prefix (nn : Word) (lo hi : Byte) : wordOf hi lo = nn ↔ [loByte nn, hiByte nn] <+: [lo, hi] := by
  constructor
  · rintro rfl
    simp
  · intro h
    cases h.eq_of_length rfl
    exact wordOf_bytes nn

/-- The map's entry at an instruction's code is that instruction when it is given the instruction's operand bytes, and only
then: the operand bytes that a code does not use do not matter. -/
theorem decodeOp_eq_iff {i : Instr} {m : DecodeMode} {op : Byte} (hwf : i.wellFormed = true) (hcode : i.code = (m, op))
    (lo hi : Byte) : decodeOp m op lo hi = i ↔ i.operands <+: [lo, hi] := by
  cases i with
  | unmapped b =>
    cases hcode
    exact iff_of_true (decodeOp_of_mem_unmappedBytes (List.contains_iff_mem.1 hwf) lo hi) List.nil_prefix
  | ld_BC_nn nn | ld_atNN_SP nn | ld_DE_nn nn | ld_HL_nn nn | ld_SP_nn nn | jp_NZ_nn nn | jp_nn nn | call_NZ_nn nn
  | jp_Z_nn nn | call_Z_nn nn | call_nn nn | jp_NC_nn nn | call_NC_nn nn | jp_C_nn nn | call_C_nn nn | ld_atNN_A nn
  | ld_A_atNN nn =>
    cases hcode
    exact .trans ⟨fun h => by injection h, fun h => congrArg _ h⟩ (wordOf_eq_iff_prefix nn lo hi)
  | ld_B_n n | ld_C_n n | stop n | ld_D_n n | jr_e n | ld_E_n n | jr_NZ_e n | ld_H_n n | jr_Z_e n | ld_L_n n
  | jr_NC_e n | ld_atHL_n n | jr_C_e n | ld_A_n n | add_A_n n | adc_A_n n | sub_n n | sbc_A_n n | ldh_atN_A n | and_n n
  | add_SP_e n | xor_n n | ldh_A_atN n | or_n n | ld_HL_SPe n | cp_n n =>
    cases hcode
    exact .trans ⟨fun h => by injection h, fun h => congrArg _ h⟩ (byte_eq_iff_prefix n lo hi)
  | _ =>
    cases hcode
    exact iff_of_true rfl List.nil_prefix

theorem decodeOp_operands_prefix (m : DecodeMode) (op lo hi : Byte) : (decodeOp m op lo hi).operands <+: [lo, hi] :=
  (decodeOp_eq_iff (decodeOp_wellFormed m op lo hi) (decodeOp_code m op lo hi) lo hi).1 rfl

theorem decodeOp_operands_length (m : DecodeMode) (op lo hi : Byte) :
    (decodeOp m op lo hi).operands.length = operandCount m op := by
  rw [← operandCount_eq_operands_length (decodeOp_wellFormed m op lo hi), Instr.table, Instr.opcode, decodeOp_code]

/-! ## Lists of bytes -/

/-- An opcode and as many bytes after it as it has operand bytes decode, whatever follows (R90, R101). -/
theorem decode_opcode_operands {m : DecodeMode} {op : Byte} {ops : List Byte} (h : ops.length = operandCount m op)
    (rest : List Byte) :
    ∃ lo hi, ops <+: [lo, hi] ∧ decode m (op :: (ops ++ rest)) = .ok (decodeOp m op lo hi, rest) := by
  have hle : ops.length ≤ 2 := h ▸ operandCount_le_two m op
  unfold decode
  dsimp only
  rw [← h]
  match ops, hle with
  | [], _ => exact ⟨0#8, 0#8, List.nil_prefix, rfl⟩
  | [lo], _ => exact ⟨lo, 0#8, ⟨[0#8], rfl⟩, rfl⟩
  | [lo, hi], _ => exact ⟨lo, hi, List.prefix_rfl, rfl⟩

/-- Nothing else decodes. -/
theorem bytes_of_decode_ok {m : DecodeMode} {bytes rest : List Byte} {i : Instr} (h : decode m bytes = .ok (i, rest)) :
    ∃ op ops, ops.length = operandCount m op ∧ bytes = op :: (ops ++ rest) := by
  cases bytes with
  | nil => cases h
  | cons op tail =>
    refine ⟨op, ?_⟩
    unfold decode at h
    dsimp only at h
    split at h
    · next hcount => cases h; exact ⟨[], hcount.symm, rfl⟩
    · next lo _ hcount => cases h; exact ⟨[lo], hcount.symm, rfl⟩
    · next lo hi _ hcount => cases h; exact ⟨[lo, hi], hcount.symm, rfl⟩
    · cases h

theorem decode_stepBytes_append {i : Instr} (hwf : i.wellFormed = true) (rest : List Byte) :
    decode i.table (i.stepBytes ++ rest) = .ok (i, rest) := by
  obtain ⟨lo, hi, hops, hdecode⟩ := decode_opcode_operands (operandCount_eq_operands_length hwf).symm rest
  rw [(decodeOp_eq_iff hwf i.code_eq lo hi).2 hops] at hdecode
  exact hdecode

/-- Only `CB` itself has the primary byte 0xCB (R100). -/
theorem opcode_ne_prefix {i : Instr} (hwf : i.wellFormed = true) (htable : i.table = .primary) (hne : i ≠ .prefix_CB) :
    i.opcode ≠ 0xCB#8 := by
  intro hop
  have hcode : i.code = (.primary, 0xCB#8) := by rw [Instr.code_eq, htable, hop]
  have hlen : 0 = i.operands.length := by
    rw [← operandCount_eq_operands_length hwf, htable, hop]
    rfl
  have hops : i.operands <+: [0#8, 0#8] := by
    rw [List.length_eq_zero_iff.1 hlen.symm]
    exact List.nil_prefix
  exact hne ((decodeOp_eq_iff hwf hcode 0#8 0#8).2 hops).symm

theorem decodeText_of_ne_prefix {op : Byte} (h : op ≠ 0xCB#8) (tail : List Byte) :
    decodeText (op :: tail) = decode .primary (op :: tail) := by
  cases tail with
  | nil => rfl
  | cons next rest => exact if_neg h

/-- Program text: the bytes of a step, after 0xCB if the instruction is an extended one (R90, R91). -/
theorem decodeText_encode_append {i : Instr} (hwf : i.wellFormed = true) (hne : i ≠ .prefix_CB) (rest : List Byte) :
    decodeText (encode i ++ rest) = .ok (i, rest) := by
  have hdecode := decode_stepBytes_append hwf rest
  cases htable : i.table with
  | primary =>
    rw [htable] at hdecode
    rw [encode, htable]
    exact (decodeText_of_ne_prefix (opcode_ne_prefix hwf htable hne) _).trans hdecode
  | extended =>
    rw [htable] at hdecode
    rw [encode, htable]
    exact hdecode

end Sys2Proof

/-- Settles O56: by the length table the decoder reads the instruction's own operand bytes, which give it back. -/
theorem decodeOfEncode : Obligations.DecodeOfEncode := fun _ hwf rest =>
  ⟨decode_stepBytes_append hwf rest, fun hne => decodeText_encode_append hwf hne rest⟩

/-- Settles O57: two lists of operand bytes of one opcode that begin with the same bytes are equal. -/
theorem decodeReadsExactlyTheEncodings : Obligations.DecodeReadsExactlyTheEncodings := by
  intro m bytes i rest
  constructor
  · intro h
    obtain ⟨op, ops, hlen, rfl⟩ := bytes_of_decode_ok h
    obtain ⟨lo, hi, hops, hdecode⟩ := decode_opcode_operands hlen rest
    obtain rfl : decodeOp m op lo hi = i := by rw [hdecode] at h; cases h; rfl
    have heq : (decodeOp m op lo hi).operands = ops := by
      have hpre := List.prefix_of_prefix_length_le (decodeOp_operands_prefix m op lo hi) hops
      exact (hpre (by rw [decodeOp_operands_length, hlen])).eq_of_length (by rw [decodeOp_operands_length, hlen])
    refine ⟨decodeOp_wellFormed m op lo hi, ?_, ?_⟩
    · rw [Instr.table, decodeOp_code]
    · rw [Instr.stepBytes, Instr.opcode, decodeOp_code, heq]; rfl
  · rintro ⟨hwf, rfl, rfl⟩
    exact decode_stepBytes_append hwf rest

/-- Settles O59: each word is the encoding of its instruction. -/
theorem sampleWordsDecode : Obligations.SampleWordsDecode :=
  ⟨decodeText_encode_append (i := .ld_A_n 0x05#8) rfl nofun [],
    decodeText_encode_append (i := .ld_B_n 0x03#8) rfl nofun [],
    decodeText_encode_append (i := .add_A_B) rfl nofun [], decodeText_encode_append (i := .xor_A) rfl nofun [],
    decodeText_encode_append (i := .bit_7_H) rfl nofun [], decodeText_encode_append (i := .set_1_E) rfl nofun [],
    decodeText_encode_append (i := .call_nn 0x1234#16) rfl nofun [],
    decodeText_encode_append (i := .jr_e 0xFB#8) rfl nofun []⟩
end

section
/-! PROOFS. The step (30_encoding.md section 6, 60_exceptions.md section 1): a step runs what the bytes at `pc` decode to, and
what it answers and returns for an unmapped byte, for `CB`, and in a core that waits; from it O39, O40, O38, O37, O41, O43 and
O35. -/

open Sys2Proof Sys2Proof.Machine Sys2Proof.Claim
namespace Sys2Proof.Machine

/-! ## The bytes at `pc` -/

/-- The instruction a step runs is the one the three bytes from `pc` on decode to; a byte the opcode does not use is left. -/
theorem decode_bytes_at_pc (s : State) :
    decode s.mode [s.upcoming 0 s.pc, s.upcoming 1 (s.pc + 1#16), s.upcoming 2 (s.pc + 2#16)] =
      .ok (s.beginStep.fetchInstr.1,
        [s.upcoming 1 (s.pc + 1#16), s.upcoming 2 (s.pc + 2#16)].drop (operandCount s.mode (nextOp s))) := by
  rw [decode_opcode_and_two_bytes, State.fetchInstr_instr]
  rfl

theorem step_of_decode {s : State} {i : Instr} {rest : List Byte} (hrun : s.run = .running)
    (h : decode s.mode [s.upcoming 0 s.pc, s.upcoming 1 (s.pc + 1#16), s.upcoming 2 (s.pc + 2#16)] = .ok (i, rest)) :
    step s = exec i (fetched s (3 - rest.length)) := by
  have hle := operandCount_le_two s.mode (nextOp s)
  rw [decode_bytes_at_pc] at h
  cases h
  have hlen : 3 - (2 - operandCount s.mode (nextOp s)) = 1 + operandCount s.mode (nextOp s) := by omega
  rw [step_eq_exec_fetched hrun, List.length_drop]
  exact congrArg (fun n => exec _ (fetched s n)) hlen.symm

theorem Instr.stepBytes_length_le {i : Instr} (hwf : i.wellFormed = true) : i.stepBytes.length ≤ 3 := by
  have hle := operandCount_le_two i.table i.opcode
  rw [operandCount_eq_operands_length hwf] at hle
  exact Nat.succ_le_succ hle

/-- In plain RAM the bytes a fetch stage would read begin with a list that stands in memory from `pc` on. -/
theorem prefix_bytes_at_pc {s : State} {bytes : List Byte} (hram : s.params.memory = .ram) (hlen : bytes.length ≤ 3)
    (h : ∀ k (hk : k < bytes.length), s.byteAt (s.pc + BitVec.ofNat 16 k) = bytes[k]) :
    bytes <+: [s.upcoming 0 s.pc, s.upcoming 1 (s.pc + 1#16), s.upcoming 2 (s.pc + 2#16)] := by
  rw [s.upcoming_ram hram, s.upcoming_ram hram, s.upcoming_ram hram]
  refine List.prefix_iff_getElem.2 ⟨hlen, fun k hk => ?_⟩
  rw [← h k hk]
  have : k = 0 ∨ k = 1 ∨ k = 2 := by omega
  rcases this with rfl | rfl | rfl <;> simp

/-! ## Unmapped bytes (R104, R340, R341) -/

theorem encoded_unmapped {op : Byte} (h : op ∈ unmappedBytes) : Encoded .primary op 0 fun _ _ => .unmapped op :=
  ⟨Laws.Length.unmapped_count op h, fun lo hi => decodeOp_of_mem_unmappedBytes h lo hi⟩

theorem raiseUnimplemented_abort {s : State} (op : Byte) (h : s.params.unimplPolicy = .abort) :
    raiseUnimplemented op s = .fault (.unimplementedOpcode { byte := op, mode := s.mode } s) := by
  simp [raiseUnimplemented, h]

theorem raiseUnimplemented_report {s : State} (op : Byte) (h : s.params.unimplPolicy = .report) :
    raiseUnimplemented op s = .fault (.unimplementedOpcodeReported { byte := op, mode := s.mode } (s.pc - 1#16) s) := by
  simp [raiseUnimplemented, h]

/-- A step that fetches an unmapped byte raises the decode error in the state after that fetch. -/
theorem step_of_mem_unmappedBytes {s : State} (hrun : s.run = .running) (hmode : s.mode = .primary)
    (hop : nextOp s ∈ unmappedBytes) : step s = raiseUnimplemented (nextOp s) (fetched s 1) := by
  obtain ⟨hcount, hentry⟩ := encoded_unmapped hop
  obtain ⟨lo, hi, hstep⟩ := step_eq_exec_decodeOp hrun
  rw [hstep, hmode, hcount, hentry, exec_unmapped]

/-! ## The second step of a prefixed instruction (R108) -/

/-- An extended opcode byte has no operand byte, and no reason to stop exists in Extended mode. -/
theorem step_extended {s : State} (hrun : s.run = .running) (hmode : s.mode = .extended) :
    step s = exec (decodeOp .extended (nextOp s) 0#8 0#8) (fetched s 1) ∧ ∃ t, step s = .next t := by
  constructor
  · rw [step_eq_exec_fetched hrun, State.fetchInstr_instr, State.beginStep_mode, hmode]
    rfl
  · exact (step_next_iff hrun).2 (by simp [hmode])

/-! ## What a step returns (R11) -/

theorem stepReturn_idle {s : State} (hrun : s.run ≠ .running) : s.stepReturn = .idle := by
  unfold State.stepReturn
  split
  · contradiction
  · rfl

theorem stepReturn_err {s : State} (hrun : s.run = .running) (hmode : s.mode = .primary) (hop : nextOp s ∈ unmappedBytes) :
    s.stepReturn = .err { byte := nextOp s, mode := .primary } := by
  have hinstr : s.beginStep.fetchInstr.1 = .unmapped (nextOp s) := by
    rw [State.fetchInstr_instr, State.beginStep_mode, hmode]
    exact decodeOp_of_mem_unmappedBytes hop _ _
  rw [State.stepReturn, hrun, hinstr, hmode]

theorem stepReturn_ok {s : State} (hrun : s.run = .running) (hno : ¬ (s.mode = .primary ∧ nextOp s ∈ unmappedBytes)) :
    s.stepReturn = .ok := by
  have hinstr : ∀ b, s.beginStep.fetchInstr.1 ≠ .unmapped b := by
    intro b hb
    rw [State.fetchInstr_instr] at hb
    exact hno ((decodeOp_eq_unmapped_iff ..).1 ⟨b, hb⟩)
  rw [State.stepReturn, hrun]
  dsimp only
  split
  · next op h => exact absurd h (hinstr op)
  · rfl

/-! ## A core that waits (R31) -/

theorem run_succ_of_next {M : Host.Core} {s t : M.State} (h : M.step s = .next t) (k : Nat) :
    M.run (k + 1) s = M.run k t := by
  rw [Host.Core.run, h]

/-- Any number of steps of a core that is not running does what the first one does. -/
theorem run_idle {t : State} (hrun : t.run ≠ .running) (n : Nat) : Host.Core.run core (n + 1) t = .next t.beginStep := by
  induction n generalizing t with
  | zero => exact run_succ_of_next (M := core) (step_idle t hrun) 0
  | succ n ih => exact (run_succ_of_next (M := core) (step_idle t hrun) (n + 1)).trans (ih (t := t.beginStep) hrun)

theorem resume_setRun {s : State} (hrun : s.run = .running) (r : RunState) : (s.setRun r).resume = s := by
  show { s with run := .running } = s
  rw [← hrun]

/-- A running core put into another run state waits there until `resume` (R323, R324, R35). -/
theorem setRun_waits_for_resume {s : State} (hrun : s.run = .running) {r : RunState} (hr : r ≠ .running) :
    (s.setRun r).stepReturn = .idle ∧ (∀ n, Host.Core.run core (n + 1) (s.setRun r) = .next (s.setRun r).beginStep) ∧
      (s.setRun r).resume = s :=
  ⟨stepReturn_idle hr, run_idle hr, resume_setRun hrun r⟩

end Sys2Proof.Machine

/-- Settles O39: a running core's step fetches the bytes the decoder reads. -/
theorem stepRunsTheDecodedInstruction : Obligations.StepRunsTheDecodedInstruction := fun s =>
  ⟨fun hrun => ⟨step_idle s hrun, stepReturn_idle hrun⟩, fun _ _ hrun hdecode => step_of_decode hrun hdecode⟩

/-- Settles O40: the bytes in memory are those of the instruction, so they decode to it. -/
theorem stepRunsTheInstructionInMemory : Obligations.StepRunsTheInstructionInMemory := by
  intro s i hrun hram hwf hmode hbytes
  have hlen := Instr.stepBytes_length_le hwf
  obtain ⟨rest, hrest⟩ := prefix_bytes_at_pc hram hlen hbytes
  have hdecode := decode_stepBytes_append hwf rest
  rw [hrest, ← hmode] at hdecode
  have hsum : i.stepBytes.length + rest.length = 3 := by rw [← List.length_append, hrest]; rfl
  have hcount : 3 - rest.length = i.stepBytes.length := by omega
  rw [step_of_decode hrun hdecode, hcount]

/-- Settles O38: by the three policies. -/
theorem unmappedIsANoOpUnderSkip : Obligations.UnmappedIsANoOpUnderSkip :=
  ⟨fun _ hop => encoded_unmapped hop, fun op s =>
    ⟨raiseUnimplemented_skip s op, raiseUnimplemented_abort op, raiseUnimplemented_report op⟩⟩

/-- Settles O37: the decode error is raised with `pc` one further, and one less is the address of the byte. -/
theorem unmappedBytesRaiseTheDecodeError : Obligations.UnmappedBytesRaiseTheDecodeError := by
  rintro s _ hrun hmode rfl hop
  rw [step_of_mem_unmappedBytes hrun hmode hop]
  have haddr : (fetched s 1).pc - 1#16 = s.pc := BitVec.add_sub_cancel ..
  cases hpolicy : s.params.unimplPolicy with
  | abort => exact raiseUnimplemented_abort _ hpolicy
  | report => rw [raiseUnimplemented_report (s := fetched s 1) _ hpolicy, haddr]; rfl
  | skip => exact raiseUnimplemented_skip _ _ hpolicy

/-- Settles O41: `CB` has no operand byte and assigns `mode`, so that the next step is one in Extended mode. -/
theorem prefixedInstructionTakesTwoSteps : Obligations.PrefixedInstructionTakesTwoSteps := by
  rintro s t hrun hmode hop rfl
  refine ⟨?_, step_extended hrun rfl⟩
  obtain ⟨lo, hi, hstep⟩ := step_eq_exec_decodeOp hrun
  rw [hstep, hmode, hop]
  rfl

/-- Settles O43: by the three cases of what the step finds. -/
theorem stepReturnsOkErrOrIdle : Obligations.StepReturnsOkErrOrIdle := by
  intro s
  by_cases hrun : s.run = .running
  · by_cases hop : s.mode = .primary ∧ nextOp s ∈ unmappedBytes
    · simp [stepReturn_err hrun hop.1 hop.2, hrun, hop, eq_comm]
    · rw [stepReturn_ok hrun hop]
      exact ⟨by simp [hrun], fun e => iff_of_false nofun fun ⟨_, hmode, hmem, _⟩ => hop ⟨hmode, hmem⟩, by simp [hrun, hop]⟩
  · simp [stepReturn_idle hrun, hrun]

/-- Settles O35: each assigns `run` alone. -/
theorem haltAndStopWaitForResume : Obligations.HaltAndStopWaitForResume := by
  rintro s hgk hrun i (rfl | ⟨n, rfl⟩)
  · exact ⟨s.setRun .halted, admitGK_true s _ _ hgk, setRun_waits_for_resume hrun nofun⟩
  · exact ⟨s.setRun .stopped, admitGK_true s _ _ hgk, setRun_waits_for_resume hrun nofun⟩
end

section
/-! PROOFS. 8-bit addition with carry (40_alu8.md section 2): O2. Decimal arithmetic (section 7): what DAA makes of the sum
and of the difference of two packed numbers, and from it O10. -/

open Sys2Proof Sys2Proof.Machine Sys2Proof.Claim

/-- Settles O2: the old flag C, as a number, takes part in the sum and in both carries. -/
theorem adcAssignsSumAndCarries : Obligations.AdcAssignsSumAndCarries := by
  refine ⟨encodedAlu .adc, fun x s => ?_⟩
  obtain ⟨t, hexec, ha, rest⟩ := exec_alu_assigns_zero (op := .adc) x s rfl
  rw [carryIn_eq_toNat] at ha rest
  exact ⟨t, hexec, by rw [ha]; rfl, rest⟩

namespace Sys2Proof.Machine

/-- The packed decimal form of a number below 100: a digit in each nibble. -/
def packedBcd (n : Nat) : Nat := n / 10 * 16 + n % 10

theorem ofNat_packedBcd_toNat {n : Nat} (h : n < 100) : (BitVec.ofNat 8 (packedBcd n)).toNat = packedBcd n := by
  rw [BitVec.toNat_ofNat, Nat.mod_eq_of_lt]
  unfold packedBcd
  omega

/-- The low digit of a number is that of its remainder modulo 100. -/
theorem packedBcd_mod_hundred (n : Nat) : packedBcd (n % 100) = n % 100 / 10 * 16 + n % 10 := by
  rw [packedBcd, Nat.mod_mod_of_dvd n (by decide)]

/-- The adjustment after an addition (R168): the low digit needs its 6 when the sum of the low digits is ten or more, the
high digit its 0x60 when the whole sum is a hundred or more. -/
theorem daa_of_packedBcd_sum {p q c a : Nat} {h carry : Bool} (hp : p < 100) (hq : q < 100) (hc : c ≤ 1)
    (ha : a = (packedBcd p + packedBcd q + c) % 256) (hh : h = decide (0x0F < packedBcd p % 16 + packedBcd q % 16 + c))
    (hcarry : carry = decide (0xFF < packedBcd p + packedBcd q + c)) :
    (a + (if h || decide (9 < a % 16) then 6 else 0) + (if carry || decide (0x99 < a) then 0x60 else 0)) % 256 =
      packedBcd ((p + q + c) % 100) ∧
    (carry || decide (0x99 < a)) = decide (100 ≤ p + q + c) := by
  unfold packedBcd at *
  have hlow : (h || decide (9 < a % 16)) = decide (10 ≤ p % 10 + q % 10 + c) := by
    rw [hh, ← Bool.decide_or, decide_eq_decide]
    omega
  have hhigh : (carry || decide (0x99 < a)) = decide (100 ≤ p + q + c) := by
    rw [hcarry, ← Bool.decide_or, decide_eq_decide]
    rcases Nat.lt_or_ge (p / 10 * 16 + p % 10 + (q / 10 * 16 + q % 10) + c) 256 with hlt | hge
    · rw [Nat.mod_eq_of_lt hlt] at ha
      omega
    · omega
  refine ⟨?_, hhigh⟩
  rw [hlow, hhigh]
  simp only [decide_eq_true_eq]
  split <;> split <;> omega

/-- The adjustment after a subtraction (R168): each digit gives back what it borrowed in excess of ten. -/
theorem daa_of_packedBcd_difference {p q c : Nat} {a : Int} {h borrow : Bool} (hp : p < 100) (hq : q < 100) (hc : c ≤ 1)
    (ha : a = ((packedBcd p : Int) - packedBcd q - c) % 256) (hh : h = decide (packedBcd p % 16 < packedBcd q % 16 + c))
    (hborrow : borrow = decide (packedBcd p < packedBcd q + c)) :
    (a - (if h then 6 else 0) - (if borrow then 0x60 else 0)) % 256 = packedBcd ((p + 100 - q - c) % 100) ∧
    borrow = decide (p < q + c) := by
  unfold packedBcd at *
  have hlow : h = decide (p % 10 < q % 10 + c) := by
    rw [hh, decide_eq_decide]
    omega
  have hhigh : borrow = decide (p < q + c) := by
    rw [hborrow, decide_eq_decide]
    omega
  refine ⟨?_, hhigh⟩
  rw [hlow, hhigh]
  simp only [decide_eq_true_eq]
  split <;> split <;> omega

end Sys2Proof.Machine

/-- Settles O10: ADC and SBC leave the binary result and the carries of its digits (O2, O4), which DAA adjusts (O9). -/
theorem daaGivesDecimalArithmetic : Obligations.DaaGivesDecimalArithmetic := by
  intro s p q hp hq hgk hs
  have ha : s.a.toNat = packedBcd p := by rw [hs]; exact ofNat_packedBcd_toNat hp
  have hv : (BitVec.ofNat 8 (packedBcd q)).toNat = packedBcd q := ofNat_packedBcd_toNat hq
  have hcf := Bool.toNat_le (cf s)
  refine ⟨?adc, ?sbc⟩
  case adc =>
    obtain ⟨t, hexec, hta, ⟨-, hn, hh, hc, -⟩, ⟨-, -, -, -, hparams⟩, -⟩ :=
      adcAssignsSumAndCarries.2 (.imm (BitVec.ofNat 8 (packedBcd q))) s
    obtain ⟨u, hdaa, hu, -⟩ := daaAdjustsAsThePseudocodeSays.2 t (by rw [hparams, hgk])
    rw [hn, if_neg Bool.false_ne_true] at hu
    obtain ⟨hua, -, -, -, huc, -⟩ := hu
    rw [srcByte, ha, hv] at hta hh hc
    obtain ⟨hres, hcarry⟩ := daa_of_packedBcd_sum hp hq hcf hta hh hc
    exact ⟨t, u, hexec, hdaa, by rw [hua, hres, packedBcd_mod_hundred], huc.trans hcarry⟩
  case sbc =>
    obtain ⟨t, hexec, hta, ⟨-, hn, hh, hc, -⟩, ⟨-, -, -, -, hparams⟩, -⟩ :=
      sbcAssignsDifferenceAndBorrows.2 (.imm (BitVec.ofNat 8 (packedBcd q))) s
    obtain ⟨u, hdaa, hu, -⟩ := daaAdjustsAsThePseudocodeSays.2 t (by rw [hparams, hgk])
    rw [hn, if_pos rfl] at hu
    obtain ⟨hua, -, -, -, huc, -⟩ := hu
    rw [srcByte, ha, hv] at hta hh hc
    obtain ⟨hres, hborrow⟩ := daa_of_packedBcd_difference hp hq hcf hta hh hc
    have hdifference := Int.ofNat_inj.1 (hua.trans hres)
    exact ⟨t, u, hexec, hdaa, by rw [hdifference, packedBcd_mod_hundred], huc.trans hborrow⟩
end

section
/-! PROOFS. 16-bit arithmetic and loads (41_alu16.md, 45_load16.md): the encodings, what an operation on a pair leaves alone,
and from them O12, O14 and O25. -/

open Sys2Proof Sys2Proof.Machine Sys2Proof.Claim
namespace Sys2Proof.Machine

/-! ## Encodings -/

theorem encoded_addHL (p : Pair) : Encoded .primary (opcode 0 (2 * pairCode p + 1) 1) 0 fun _ _ => Instr.addHL p := by
  cases p <;> exact ⟨rfl, fun _ _ => rfl⟩

theorem encoded_ldPair (p : Pair) :
    Encoded .primary (opcode 0 (2 * pairCode p) 1) 2 fun lo hi => Instr.ldPair p (wordOf hi lo) := by
  cases p <;> exact ⟨rfl, fun _ _ => rfl⟩

/-! ## Results -/

/-- The sign extension as the statements say it (R7). -/
theorem sext16_eq_signed16 (e : Byte) : sext16 e = signed16 e := by
  have he := e.isLt
  apply BitVec.eq_of_toNat_eq
  rw [sext16_toNat, signed16]
  split <;> rw [BitVec.toNat_ofNat] <;> omega

theorem addSigned_eq (a : Word) (e : Byte) :
    addSigned a e = (a + signed16 e, ⟨false, false, decide (0x0F < a.toNat % 16 + e.toNat % 16),
      decide (0xFF < a.toNat % 256 + e.toNat)⟩) := by
  rw [addSigned, sext16_eq_signed16]

theorem State.setPair_hl_hl (s : State) (w : Word) : (s.setPair .hl w).hl = w := by
  rw [State.hl, State.setPair_pair, if_pos rfl]

theorem State.addHL_hl (s : State) (p : Pair) :
    (s.addHL p).hl = BitVec.ofNat 16 (s.hl.toNat + (s.pair p).toNat) := by
  rw [State.addHL, State.hl, State.setFlags_pair]
  exact s.setPair_hl_hl _

end Sys2Proof.Machine

namespace Sys2Proof.Claim

variable {changed : List Reg8} {s t : State}

/-! ## What the operations leave alone -/

theorem Keeps.setFlags (h : Keeps changed s t) (x : Flags) : Keeps changed s (t.setFlags x) := by
  obtain ⟨hreg, hcontrol⟩ := h
  exact ⟨fun r hr => by rw [State.setFlags_reg, hreg r hr], hcontrol⟩

theorem keeps_setPair_sp (s : State) (w : Word) : Keeps [] s (s.setPair .sp w) :=
  ⟨fun r _ => s.setPair_sp_reg w r, rfl, rfl, rfl, rfl⟩

/-- Two writes at different addresses store both bytes. -/
theorem stores_memWrite_memWrite (s : State) {a b : Word} (hne : a ≠ b) (v w : Byte) :
    Stores [(a, v), (b, w)] s ((s.memWrite a v).memWrite b w) := by
  constructor
  · intro x hx
    simp only [List.map_cons, List.map_nil, List.mem_cons, List.not_mem_nil, or_false, not_or] at hx
    obtain ⟨hxa, hxb⟩ := hx
    rw [State.memWrite_byteAt_other _ b x w hxb, State.memWrite_byteAt_other _ a x v hxa]
  · intro hm c hc
    simp only [List.mem_cons, List.not_mem_nil, or_false] at hc
    obtain rfl | rfl := hc
    · rw [State.memWrite_byteAt_other _ b a w hne, s.memWrite_byteAt hm, if_pos rfl]
    · rw [State.memWrite_byteAt _ (s.memWrite_wf hm a v), if_pos rfl]

theorem made_memWrite_memWrite (s : State) (a b : Word) (v w : Byte) :
    Made [.write a v, .write b w] s ((s.memWrite a v).memWrite b w) := by
  refine ⟨List.append_assoc .., ?_⟩
  cases s.params.memory <;> rfl

end Sys2Proof.Claim

/-- Settles O12: the sum in HL and the flags of `add16` in F. -/
theorem addHlAssignsSumAndCarries : Obligations.AddHlAssignsSumAndCarries := by
  refine ⟨encoded_addHL, fun p s => ⟨s.addHL p, exec_addHL p s, ?_, ?_, ((OnlyRegisters.refl s).setHL _).setFlags _⟩⟩
  · rw [State.addHL_hl, BitVec.toNat_ofNat]
  · rw [State.addHL_hl]
    exact flagsAre_setFlags ..

/-- Settles O14: both compute `addSigned` of `sp` and assign it, with its flags. -/
theorem stackPointerPlusSignedOffset : Obligations.StackPointerPlusSignedOffset := by
  refine ⟨⟨rfl, fun _ _ => rfl⟩, ⟨rfl, fun _ _ => rfl⟩, fun e s => ⟨fun hgk => ?addSP, ?loadHL⟩⟩
  case addSP =>
    obtain ⟨-, -, hstores, hmade⟩ := OnlyRegisters.refl s
    refine ⟨s.addSP e, admitGK_true s _ _ hgk, ?_⟩
    rw [State.addSP, addSigned_eq]
    exact ⟨rfl, flagsAre_setFlags .., rfl, (keeps_setPair_sp s _).setFlags _, hstores, hmade⟩
  case loadHL =>
    refine ⟨s.loadHLSP e, exec_ld_HL_SPe e s, ?_⟩
    rw [State.loadHLSP, addSigned_eq]
    exact ⟨s.setPair_hl_hl _, flagsAre_setFlags .., ((OnlyRegisters.refl s).setHL _).setFlags _⟩

/-- Settles O25: a pair or `sp` is assigned, or two writes are made at addresses that differ even when `nn + 1` wraps. -/
theorem sixteenBitLoads : Obligations.SixteenBitLoads := by
  refine ⟨encoded_ldPair, ⟨rfl, fun _ _ => rfl⟩, ⟨rfl, fun _ _ => rfl⟩, fun s =>
    ⟨fun p nn => ?pair, fun nn => ?storeSP, ?loadSP⟩⟩
  case pair =>
    exact ⟨s.setPair p nn, exec_ldPair p nn s, by rw [State.setPair_pair, if_pos rfl], setPair_frame s p nn⟩
  case storeSP =>
    have hne : nn ≠ nn + 1#16 := by bv_omega
    exact ⟨s.storeSP nn, exec_ld_atNN_SP nn s, stores_memWrite_memWrite s hne _ _, made_memWrite_memWrite ..,
      rfl, ⟨fun r _ => by simp [State.storeSP], rfl, rfl, rfl, rfl⟩, rfl, rfl⟩
  case loadSP =>
    obtain ⟨-, -, hstores, hmade⟩ := OnlyRegisters.refl s
    exact ⟨s.setPair .sp s.hl, exec_ld_SP_HL s, rfl, rfl, rfl, keeps_setPair_sp s _, hstores, hmade⟩
end

section
/-! PROOFS. The shifts, SWAP and the rotates of A (42_rotate_shift.md): the results as arithmetic, and from them O15, O17 and
O18. -/

open Sys2Proof Sys2Proof.Machine Sys2Proof.Claim
namespace Sys2Proof.Machine

/-! ## Results as arithmetic -/

/-- SLA (R194). -/
theorem rotate_sla (v : Byte) (cin : Bool) : rotate .sla v cin = (BitVec.ofNat 8 (v.toNat * 2), v.getLsbD 7) := by
  have hres : v <<< 1 = BitVec.ofNat 8 (v.toNat * 2) := by
    simpa using shiftLeft_or_eq_ofNat (k := 1) v (y := 0#8) (by decide)
  rw [rotate, hres]

/-- The top bit of a byte alone. -/
theorem and_topBit_eq_shiftLeft (v : Byte) : v &&& 0x80#8 = (v >>> 7) <<< 7 := by
  apply BitVec.eq_of_getLsbD_eq
  intro i hi
  interval_cases i <;> simp

/-- SRA (R195): bit 7 enters where it was. -/
theorem rotate_sra (v : Byte) (cin : Bool) :
    rotate .sra v cin = (BitVec.ofNat 8 (v.toNat / 2 + v.toNat / 128 * 128), v.getLsbD 0) := by
  have hrest : (v >>> 1).toNat = v.toNat / 2 := byte_ushiftRight_toNat v 1
  have htop : (v >>> 7).toNat = v.toNat / 128 := byte_ushiftRight_toNat v 7
  rw [rotate, BitVec.or_comm, and_topBit_eq_shiftLeft, shiftLeft_or_eq_ofNat _ (by omega), hrest, htop, Nat.add_comm]
  rfl

/-- SWAP (R196): of `v * 16` the low nibble of `v` stays in the byte. -/
theorem rotate_swap (v : Byte) (cin : Bool) :
    rotate .swap v cin = (BitVec.ofNat 8 (v.toNat % 16 * 16 + v.toNat / 16), false) := by
  have hhigh : (v >>> 4).toNat = v.toNat / 16 := byte_ushiftRight_toNat v 4
  rw [rotate, shiftLeft_or_eq_ofNat v (by omega), hhigh]
  congr 1
  bv_omega

/-- SRL (R197). -/
theorem rotate_srl (v : Byte) (cin : Bool) : rotate .srl v cin = (BitVec.ofNat 8 (v.toNat / 2), v.getLsbD 0) := by
  have hres : v >>> 1 = BitVec.ofNat 8 (v.toNat / 2) := by
    rw [← pow_one 2, ← byte_ushiftRight_toNat v 1, BitVec.ofNat_toNat, BitVec.setWidth_eq]
  rw [rotate, hres]

/-! ## What the rotates of A do -/

/-- What every rotate of A does (R198): the result in A, and Z from the result or false. -/
theorem rotatesATo_of_rotate {i : Instr} {op : RotOp} {n : Nat} {c : Bool} {s : State}
    (hexec : exec i s = .next (s.rotateA op)) (hres : rotate op s.a (cf s) = (BitVec.ofNat 8 n, c)) :
    RotatesATo i n c s := by
  have ht : s.rotateA op = (s.setReg .a (BitVec.ofNat 8 n)).setFlags
      ⟨!s.params.hwFlagCompat && BitVec.ofNat 8 n == 0#8, false, false, c⟩ := by
    have hc : s.flags.c = cf s := rfl
    rw [State.rotateA, hc, rotateA8, hres]
  have hz : (!s.params.hwFlagCompat && BitVec.ofNat 8 n == 0#8) =
      if s.params.hwFlagCompat then false else BitVec.ofNat 8 n == 0#8 := by
    cases s.params.hwFlagCompat <;> rfl
  rw [RotatesATo, hexec, ht, hz]
  exact ⟨_, rfl, rfl, flagsAre_setFlags .., ((OnlyRegisters.refl s).setReg .a _).setFlags _⟩

end Sys2Proof.Machine

/-- Settles O15: A is rotated as the operand of the extended rotate of the same name is. -/
theorem accumulatorRotates : Obligations.AccumulatorRotates :=
  ⟨⟨rfl, fun _ _ => rfl⟩, ⟨rfl, fun _ _ => rfl⟩, ⟨rfl, fun _ _ => rfl⟩, ⟨rfl, fun _ _ => rfl⟩, fun s =>
    ⟨rotatesATo_of_rotate (exec_rlca s) (rotate_rlc ..), rotatesATo_of_rotate (exec_rrca s) (rotate_rrc ..),
      rotatesATo_of_rotate (exec_rla s) (rotate_rl ..), rotatesATo_of_rotate (exec_rra s) (rotate_rr ..)⟩⟩

/-- Settles O17: zero or bit 7 fills the place the shift has cleared. -/
theorem shifts : Obligations.Shifts :=
  ⟨encoded_rot .sla, encoded_rot .sra, encoded_rot .srl, fun x s =>
    ⟨rotatesTo_of_rotate x s (rotate_sla ..), rotatesTo_of_rotate x s (rotate_sra ..),
      rotatesTo_of_rotate x s (rotate_srl ..)⟩⟩

/-- Settles O18: each nibble is shifted into the place of the other. -/
theorem swapExchangesNibbles : Obligations.SwapExchangesNibbles :=
  ⟨encoded_rot .swap, fun x s => rotatesTo_of_rotate x s (rotate_swap ..)⟩
end

section
/-! PROOFS. POP (46_stack_control.md section 2): the encoding, the registers of a pair, and from them O27. -/

open Sys2Proof Sys2Proof.Machine Sys2Proof.Claim
namespace Sys2Proof.Machine

theorem encoded_pop (q : StackPair) : Encoded .primary (opcode 3 (2 * stackPairCode q) 1) 0 fun _ _ => Instr.pop q := by
  cases q <;> exact ⟨rfl, fun _ _ => rfl⟩

/-- The registers with a code that a pair is made of (R22); F has none. -/
def stackPairRegs : StackPair → List Reg8
  | .bc => [.b, .c]
  | .de => [.d, .e]
  | .hl => [.h, .l]
  | .af => [.a]

theorem State.setStackPair_reg_other (s : State) (q : StackPair) (w : Word) {r : Reg8} (hr : r ∉ stackPairRegs q) :
    (s.setStackPair q w).reg r = s.reg r := by
  cases q <;> cases r <;> simp [stackPairRegs] at hr ⊢

end Sys2Proof.Machine

namespace Sys2Proof.Claim

variable {changed : List Reg8} {s t : State}

theorem Keeps.setStackPair (h : Keeps [] s t) (q : StackPair) (w : Word) :
    Keeps (stackPairRegs q) s (t.setStackPair q w) := by
  obtain ⟨hreg, hcontrol⟩ := h
  exact ⟨fun r hr => by rw [State.setStackPair_reg_other t q w hr, hreg r (by simp)], by simpa using hcontrol⟩

theorem Popped.setStackPair (h : Popped s t) (q : StackPair) (w : Word) : Popped s (t.setStackPair q w) := by
  cases q <;> exact h

/-- What POP leaves alone, whatever pair it assigns (R295). -/
theorem pop_frame (s : State) (q : StackPair) :
    Keeps (stackPairRegs q) s (s.pop q) ∧ (s.pop q).pc = s.pc ∧ Popped s (s.pop q) := by
  rw [State.pop_eq_setStackPair]
  exact ⟨(keeps_pop16 s).setStackPair q _, by rw [State.setStackPair_pc, State.pop16_pc],
    (popped_pop16 s).setStackPair q _⟩

theorem pop_f_of_ne_af (s : State) {q : StackPair} (hq : q ≠ .af) : (s.pop q).f = s.f := by
  rw [State.pop_eq_setStackPair, State.setStackPair_f, if_neg hq, State.pop16_f]

end Sys2Proof.Claim

/-- Settles O27: the word on top of the stack is assigned to the pair, and its two halves to the registers of the pair. -/
theorem popReadsLowThenHigh : Obligations.PopReadsLowThenHigh := by
  refine ⟨encoded_pop, fun s => ⟨?bc, ?de, ?hl, ?af⟩⟩
  case bc =>
    exact ⟨s.pop .bc, exec_pop .bc s, congrArg State.b (s.pop_eq_setStackPair .bc),
      congrArg State.c (s.pop_eq_setStackPair .bc), pop_f_of_ne_af s nofun, pop_frame s .bc⟩
  case de =>
    exact ⟨s.pop .de, exec_pop .de s, congrArg State.d (s.pop_eq_setStackPair .de),
      congrArg State.e (s.pop_eq_setStackPair .de), pop_f_of_ne_af s nofun, pop_frame s .de⟩
  case hl =>
    exact ⟨s.pop .hl, exec_pop .hl s, congrArg State.h (s.pop_eq_setStackPair .hl),
      congrArg State.l (s.pop_eq_setStackPair .hl), pop_f_of_ne_af s nofun, pop_frame s .hl⟩
  case af =>
    exact ⟨s.pop .af, exec_pop .af s, congrArg State.a (s.pop_eq_setStackPair .af),
      congrArg State.f (s.pop_eq_setStackPair .af), pop_frame s .af⟩
end

section
/-! PROOFS. Relative jumps (46_stack_control.md section 4): O29. -/

open Sys2Proof Sys2Proof.Machine Sys2Proof.Claim
namespace Sys2Proof.Machine

theorem encoded_jrIf (cc : Cond) : Encoded .primary (opcode 0 (4 + condCode cc) 0) 1 fun e _ => Instr.jrIf cc e := by
  cases cc <;> exact ⟨rfl, fun _ _ => rfl⟩

theorem State.jumpRel_eq (s : State) (e : Byte) : s.jumpRel e = { s with pc := s.pc + signed16 e } := by
  rw [State.jumpRel, sext16_eq_signed16]
  rfl

end Sys2Proof.Machine

/-- Settles O29: JR is a jump by the offset, the conditional one when its condition holds. -/
theorem relativeJumpsAddSignedOffset : Obligations.RelativeJumpsAddSignedOffset := by
  refine ⟨⟨rfl, fun _ _ => rfl⟩, encoded_jrIf, fun e s => ⟨?jr, fun cc => ?jrIf⟩⟩
  case jr => rw [exec_jr_e, State.jumpRel_eq]
  case jrIf => rw [exec_jrIf, State.whenHolds_eq_ite, State.jumpRel_eq]
end

section
/-! PROOFS. The gate, NOP, HALT, STOP and `CB` (47_gate_misc.md): O34; and the sixteen refusals (30_encoding.md section 5):
O36. -/

open Sys2Proof Sys2Proof.Machine Sys2Proof.Claim
namespace Sys2Proof.Machine

/-- Each of the fourteen is run through `admitGK` under the name listed beside it (R105). -/
theorem exec_of_mem_generalKnowledgeInstrs {i : Instr} {name : String} (h : (i, name) ∈ generalKnowledgeInstrs) (s : State) :
    ∃ t, exec i s = admitGK name s t := by
  unfold generalKnowledgeInstrs at h
  fin_cases h <;> exact ⟨_, rfl⟩

end Sys2Proof.Machine

/-- Settles O34: each is the assignment of one field, or none. -/
theorem gateNopHaltStopPrefix : Obligations.GateNopHaltStopPrefix :=
  ⟨⟨rfl, fun _ _ => rfl⟩, ⟨rfl, fun _ _ => rfl⟩, ⟨rfl, fun _ _ => rfl⟩, ⟨rfl, fun _ _ => rfl⟩, ⟨rfl, fun _ _ => rfl⟩,
    ⟨rfl, fun _ _ => rfl⟩, fun s => ⟨exec_di s, exec_ei s, exec_prefix_CB s, fun hgk =>
      ⟨admitGK_true s "NOP" s hgk, admitGK_true s "HALT" _ hgk, fun _ => admitGK_true s "STOP" _ hgk⟩⟩⟩

/-- Settles O36: all sixteen are run through `admitGK`, which refuses. -/
theorem withoutGeneralKnowledgeTheSixteenAreRefused : Obligations.WithoutGeneralKnowledgeTheSixteenAreRefused := by
  rintro s hgk i name (h | ⟨rfl, n, rfl⟩ | ⟨rfl, e, rfl⟩)
  · obtain ⟨t, ht⟩ := exec_of_mem_generalKnowledgeInstrs h s
    rw [ht, admitGK_false s name t hgk]
  · exact admitGK_false s "STOP" _ hgk
  · exact admitGK_false s "ADD_SP_e" _ hgk
end

section
/-! PROOFS. The reset operation (10_state.md section 5, 70_reset_and_hazards.md section 1): O52 and O53. -/

open Sys2Proof Sys2Proof.Machine Sys2Proof.Claim

/-- Settles O52: F is the drawn nibble with four zeros below it, every other field is assigned or kept. -/
theorem initLeavesTheBootState : Obligations.InitLeavesTheBootState := by
  intro draw s
  refine ⟨rfl, rfl, rfl, rfl, rfl, fun r => by cases r <;> rfl, ?_, ⟨fun _ _ => rfl, by simp⟩, rfl, rfl⟩
  have hf : (State.init draw s).f.toNat = draw.fHigh.toNat <<< 4 ||| 0 := BitVec.toNat_append ..
  rw [hf, Nat.or_zero, Nat.shiftLeft_eq, Nat.mul_comm]

/-- Settles O53: the draw of zeros. -/
theorem resetIsABootState : Obligations.ResetIsABootState :=
  ⟨rfl, rfl, rfl, rfl, rfl, rfl, ⟨0#8, 0#8, 0#8, 0#8, 0#8, 0#8, 0#8, 0#4, 0#16, true⟩, rfl, rfl⟩
end
